-- ==== Sys2Proof/Word.lean ====
section
/-! DEFINITION. The word types of the engine (00_scope.md R9 and Table 00-1). -/

namespace Sys2Proof

/-- A register value, 8 bits, unsigned (`REG_DATA_BITS`, R7, R61). -/
abbrev Byte := BitVec 8

/-- A register address, 7 bits, 0x00 to 0x7F (`REG_ADDR_BITS`, R7, R61). -/
abbrev RegAddr := BitVec 7

/-- A wire frame, 16 bits, bit 15 first on the wire (R100). -/
abbrev Frame := BitVec 16

/-- A host command word, 24 bits (`CMD_BITS`, R105). -/
abbrev Cmd := BitVec 24

end Sys2Proof
end

