-- ==== Sys2Proof/Config.lean ====
section
/-! DEFINITION. The parameters of 00_scope.md Table 00-1 (R7): constants the source fixes, the OPEN parameters,
and the free values of the sensor. -/

namespace Sys2Proof

/-! ## Constants with a value in Table 00-1 -/

/-- `FRAME_W`, `FRAME_H`: the raster is 35 by 35. -/
abbrev Config.frameW : Nat := 35
abbrev Config.frameH : Nat := 35

/-- `FRAME_PIXELS`: elements of the frame buffer and iterations of the streaming loop. -/
abbrev Config.framePixels : Nat := 1225

/-- `BANK_REG`: the bank-select register. -/
abbrev Config.bankReg : Byte := 0x7F#8

/-- `FRAME_REG`: the frame status and data register. -/
abbrev Config.frameReg : Byte := 0x58#8

/-- `CHIP_ID`: expected value of register 0x00. -/
abbrev Config.chipId : Byte := 0x49#8

/-- `INV_ID`: expected value of register 0x5F. The source's literal; no complement of 0x49 (R174, G7). -/
abbrev Config.invId : Byte := 0xB8#8

/-- `REV_OK`: expected value of register 0x01 at final verification. -/
abbrev Config.revOk : Byte := 0x00#8

/-- `SPI_CLK_MAX`: the maximum bus clock in Hz (R135). -/
abbrev Config.spiClkMax : Nat := 4000000

/-- `SPI_BIT_ORDER`: the most significant bit goes first (R69, R135). -/
abbrev Config.spiMsbFirst : Bool := true

/-- `SPI_MODE`: mode 3 (R135). -/
abbrev Config.spiMode : Nat := 3

/-- `CS_ACTIVE_LOW`: asserted is the low level on the pin (R132, D8; PRESUMED there: general knowledge G2; log 22). -/
abbrev Config.csActiveLow : Bool := true

/-- `T_CS_SETUP`, in microseconds like every wait below. -/
abbrev Config.tCsSetup : Nat := 50
/-- `T_ADDR_DATA`. -/
abbrev Config.tAddrData : Nat := 50
/-- `T_WR_HOLD`. -/
abbrev Config.tWrHold : Nat := 50
/-- `T_RD_HOLD`. -/
abbrev Config.tRdHold : Nat := 100
/-- `T_WR_POST`. -/
abbrev Config.tWrPost : Nat := 200
/-- `T_RESET_EDGE`. -/
abbrev Config.tResetEdge : Nat := 1000
/-- `T_POWERON`. -/
abbrev Config.tPowerOn : Nat := 5000
/-- `T_PRIME`. -/
abbrev Config.tPrime : Nat := 1000
/-- `T_BULK_PAUSE`. -/
abbrev Config.tBulkPause : Nat := 100000
/-- `T_FRAME_SETTLE`. -/
abbrev Config.tFrameSettle : Nat := 50
/-- `T_LED_SETTLE`. -/
abbrev Config.tLedSettle : Nat := 200000

/-! ## The OPEN parameters -/

/-- One `Write(reg, val)` item: a 7-bit address and a byte (R116, R68). -/
structure SeqWrite where
  reg : RegAddr
  val : Byte
deriving DecidableEq, Repr, Inhabited

/-- One item of a bulk list: `Write(reg, val)` or `Pause` (R116). -/
inductive SeqItem where
  | write (w : SeqWrite)
  | pause
deriving DecidableEq, Repr

/-- A bulk list: finitely many items holding EXACTLY one `Pause` (R185, R68), so it is what stands before the pause
and what stands after it. Nothing else is constrained: either part may be empty (N23). -/
structure BulkList where
  before : List SeqWrite
  after  : List SeqWrite
deriving DecidableEq, Repr, Inhabited

/-- The items of a bulk list, in order. -/
def BulkList.items (l : BulkList) : List SeqItem :=
  l.before.map .write ++ .pause :: l.after.map .write

/-- The four OPEN parameters of Table 00-1 (D19, D36), arguments of the model. State carries them and no step writes
them (log 7). `pollLimit = none` is the unbounded default; `some L` is the optional deviation of R279. -/
structure Params where
  bulkA          : BulkList
  bulkB          : BulkList
  frameEnableSeq : Vector SeqWrite 9
  pollLimit      : Option Nat
deriving DecidableEq, Repr

/-- `BULK_A`: the source withholds it (N2); a free value. -/
opaque Config.bulkA : BulkList

/-- `BULK_B`: the source withholds it (N2); a free value. -/
opaque Config.bulkB : BulkList

/-- `FRAME_ENABLE_SEQ`: exactly nine writes the source withholds (N3, R234); a free value. -/
opaque Config.frameEnableSeq : Vector SeqWrite 9

/-- The parameters of the machine right after reset: the withheld lists, and the unbounded `POLL_LIMIT` that is the
spec's default (R279, D19). -/
def Config.params : Params :=
  { bulkA := Config.bulkA, bulkB := Config.bulkB, frameEnableSeq := Config.frameEnableSeq, pollLimit := none }

/-! ## The sensor's free values -/

/-- The reply byte of the `k`-th byte transfer, where the environment has fixed none: a free value (R14, U7; log 2). -/
opaque Config.sensorReply (k : Nat) : Byte

end Sys2Proof
end

