-- ==== Sys2Proof/Syntax.lean ====
section
/-! DEFINITION. The instructions: one constructor per row of spec/opcode_table.json, in the table's order. -/

namespace Sys2Proof

/-- The eight commands (30_encoding.md Table 30-2) and the two wire frames (Table 30-1). A field the table marks
ignored is no operand (R108). -/
inductive Instr where
  /-- `REG_WRITE reg, val` (R154). `reg` is the 8-bit operand whose bits 6:0 are the address (R103). -/
  | regWrite (reg val : Byte)
  /-- `REG_READ reg` (R155). -/
  | regRead (reg : Byte)
  /-- `INIT variant` (R170): the raw variant code (R110). -/
  | init (variant : Byte)
  /-- `READ_MOTION` (R220). -/
  | readMotion
  /-- `FRAME_ENABLE` (R233). -/
  | frameEnable
  /-- `FRAME_STREAM` (R240). -/
  | frameStream
  /-- `FRAME_READ` (R241). -/
  | frameRead
  /-- `SET_LED on` (R260): `val[0]` of the word (R115). -/
  | setLed (on : Bool)
  /-- `WFRAME`: the wire frame of a register write (R101). -/
  | wframe (reg : RegAddr) (val : Byte)
  /-- `RFRAME`: the wire frame of a register read (R102). -/
  | rframe (reg : RegAddr)
deriving DecidableEq, Repr

end Sys2Proof
end

