-- ==== Sys2Proof/WellFormed.lean ====
section
/-! DEFINITION. Which instructions and parameters are well formed. -/

namespace Sys2Proof

/-- The register operand of a command is a 7-bit address: the high bit "must never be supplied by callers directly"
(30_encoding.md R103, U3). A word that sets it is still executed; the decoder strips it (R108). -/
def addressOk (reg : Byte) : Bool := reg.getLsbD 7 == false

/-- An instruction in its canonical spelling. Every other operand has exactly the values its encoding admits. -/
def Instr.wellFormed : Instr → Bool
  | .regWrite reg _ => addressOk reg
  | .regRead reg => addressOk reg
  | .init _ => true
  | .readMotion => true
  | .frameEnable => true
  | .frameStream => true
  | .frameRead => true
  | .setLed _ => true
  | .wframe _ _ => true
  | .rframe _ => true

/-- A finite `POLL_LIMIT` is at least 1 (60_exceptions.md R279). The lists are well formed by their types. -/
def Params.wellFormed (p : Params) : Bool := p.pollLimit != some 0

end Sys2Proof
end

