-- ==== Sys2Proof/Decode.lean ====
section
/-! DEFINITION. Decoding of command words (30_encoding.md R105 to R110) and of wire frames (R100 to R102), total and
rejecting by name, then the encoder. -/

namespace Sys2Proof

/-- Why a word is no instruction. -/
inductive DecodeError where
  /-- `op` = 0x00 or 0x09 to 0xFF names no command (R109). -/
  | illegalOpcode (op : Byte)
  /-- Bit 15 is 0 but the second byte is not the zero placeholder of a read frame (R102). -/
  | nonzeroPlaceholder (second : Byte)
deriving DecidableEq, Repr

/-- `cmd[23:16]`, the opcode (R105). -/
def cmdOp (w : Cmd) : Byte := w.extractLsb' 16 8

/-- `cmd[15:8]`, the field `reg` (R105). -/
def cmdReg (w : Cmd) : Byte := w.extractLsb' 8 8

/-- `cmd[7:0]`, the field `val` (R105). -/
def cmdVal (w : Cmd) : Byte := w.extractLsb' 0 8

/-- The word with the given three bytes, the opcode in the top one. -/
def cmdWord (op reg val : Byte) : Cmd :=
  (op.setWidth 24 <<< 16) ||| (reg.setWidth 24 <<< 8) ||| val.setWidth 24

/-- `{hi, lo}`: two bytes as one 16-bit value, `hi` in the more significant position (00_scope.md R9). -/
def joinBytes (hi lo : Byte) : BitVec 16 := (hi.setWidth 16 <<< 8) ||| lo.setWidth 16

/-- Bits 6:0 of a register operand, as a byte: bit 7 is ignored (R103, R108). -/
def stripHighBit (reg : Byte) : Byte := reg &&& 0x7F#8

/-- The command a word names: `op` alone selects it, and an ignored field is not read (R107, R108). -/
def decodeCommand (w : Cmd) : Except DecodeError Instr :=
  match cmdOp w with
  | 0x01#8 => .ok (.regWrite (stripHighBit (cmdReg w)) (cmdVal w))
  | 0x02#8 => .ok (.regRead (stripHighBit (cmdReg w)))
  | 0x03#8 => .ok (.init (cmdVal w))
  | 0x04#8 => .ok .readMotion
  | 0x05#8 => .ok .frameEnable
  | 0x06#8 => .ok .frameStream
  | 0x07#8 => .ok .frameRead
  | 0x08#8 => .ok (.setLed ((cmdVal w).getLsbD 0))
  | op => .error (.illegalOpcode op)

/-- `frame[14:8]`, the register address of a wire frame (Table 30-1). -/
def frameReg (f : Frame) : RegAddr := f.extractLsb' 8 7

/-- `frame[7:0]`, the second byte of a wire frame. -/
def frameSecond (f : Frame) : Byte := f.extractLsb' 0 8

/-- The wire frame format, told by bit 15: 1 a write, 0 a read, whose second byte is 0x00 (R100 to R102). -/
def decodeFrame (f : Frame) : Except DecodeError Instr :=
  if f.getLsbD 15 then .ok (.wframe (frameReg f) (frameSecond f))
  else if frameSecond f = 0x00#8 then .ok (.rframe (frameReg f))
  else .error (.nonzeroPlaceholder (frameSecond f))

/-- A word as it is carried: by the command port or by the bus. -/
inductive Encoded where
  | command (w : Cmd)
  | frame (f : Frame)
deriving DecidableEq, Repr

/-- Decoding of either kind of word. -/
def decode : Encoded → Except DecodeError Instr
  | .command w => decodeCommand w
  | .frame f => decodeFrame f

/-! ## The encoder -/

/-- The write frame of an address and a value: `{1, reg[6:0], val}` (R101). -/
def wframeBits (reg : RegAddr) (val : Byte) : Frame := joinBytes (0x80#8 ||| reg.setWidth 8) val

/-- The read frame of an address: `{0, reg[6:0], 0x00}` (R102). -/
def rframeBits (reg : RegAddr) : Frame := joinBytes (reg.setWidth 8) 0x00#8

/-- `val[0]` of a SET_LED word (R115), ignored bits 0. -/
def ledBit (on : Bool) : Byte := if on then 0x01#8 else 0x00#8

/-- The canonical word of an instruction: every ignored bit 0 (R108). -/
def encode : Instr → Encoded
  | .regWrite reg val => .command (cmdWord 0x01#8 reg val)
  | .regRead reg => .command (cmdWord 0x02#8 reg 0x00#8)
  | .init variant => .command (cmdWord 0x03#8 0x00#8 variant)
  | .readMotion => .command (cmdWord 0x04#8 0x00#8 0x00#8)
  | .frameEnable => .command (cmdWord 0x05#8 0x00#8 0x00#8)
  | .frameStream => .command (cmdWord 0x06#8 0x00#8 0x00#8)
  | .frameRead => .command (cmdWord 0x07#8 0x00#8 0x00#8)
  | .setLed on => .command (cmdWord 0x08#8 0x00#8 (ledBit on))
  | .wframe reg val => .frame (wframeBits reg val)
  | .rframe reg => .frame (rframeBits reg)

/-- The instruction the decoder reads from a word of the opcode table's numbering: 24 bits a command word, 16 bits a
wire frame; the table has no other width (R117). -/
def decodeTableWord (nbits w : Nat) : Option Instr :=
  match nbits with
  | 24 => (decodeCommand (BitVec.ofNat 24 w)).toOption
  | 16 => (decodeFrame (BitVec.ofNat 16 w)).toOption
  | _ => none

end Sys2Proof
end

