-- ==== Sys2Proof/Machine/State.lean ====
section
/-! DEFINITION. The state of the engine as plain data (10_state.md R20 to R27, R42), the reasons a step can stop, and
the state right after reset. -/

namespace Sys2Proof.Machine

/-- The level driven on chip-select (R27). -/
inductive Level where
  | asserted
  | deasserted
deriving DecidableEq, Repr

/-- `ISTATE`: where the initialization state machine stands (R22). -/
inductive InitState where
  | uninit
  | running
  | ready
  | failed
deriving DecidableEq, Repr

/-- `ERR`: the error codes the engine writes (60_exceptions.md R270); the codes 5 to 7 have no name, being never
written. -/
inductive ErrCode where
  | none
  | identityMismatch
  | unsupportedVariant
  | illegalCommand
  | pollLimit
deriving DecidableEq, Repr

/-- `UPC`: the micro-step labels of files 41 to 45, and `IDLE` (R26). -/
inductive Label where
  | idle | w0 | w1 | q0 | q1 | i00 | i01 | i02 | i03 | i04 | i05 | i06 | i07 | i08 | i09 | i10 | i11 | i12
  | i13 | i14 | i15 | i16 | i17 | i18 | i19 | i20 | i21 | i22 | i23 | i24 | i25 | i26 | i27 | i28 | i29 | i30
  | i31 | i32 | i33 | i34 | i35 | i36 | i37 | i38 | i39 | i40 | i41 | i42 | i43 | i44 | i45 | i46 | i47 | i48
  | i49 | i50 | i51 | m0 | m1 | m2 | m3 | m4 | m5 | e0 | e1 | e2 | e3 | e4 | e5 | eg0 | eg1 | eg2 | eg3 | s0
  | s1 | s2 | s3 | s4 | s5 | s6 | s7 | s8 | cg0 | cg1 | cg2 | cg3 | c4 | l0 | l1 | l2 | l3 | l4
deriving DecidableEq, Repr

/-- The bus events (00_scope.md R12). -/
inductive Event where
  /-- `ACQ`: begin a bus session with the fixed parameters of `Config`. -/
  | acq
  /-- `REL`: end the bus session. -/
  | rel
  /-- `CSA`: drive chip-select to asserted. -/
  | csa
  /-- `CSD`: drive chip-select to deasserted. -/
  | csd
  /-- `DLY(n)`: wait at least `n` microseconds. -/
  | dly (us : Nat)
  /-- `XFER(tx, rx)`: transfer one byte. -/
  | xfer (tx rx : Byte)
  /-- `FBW(i, v)`: write `v` to frame-buffer element `i`. -/
  | fbw (i : Nat) (v : Byte)
deriving DecidableEq, Repr

/-- One operation of a transaction, before the sensor has answered (40_bus_transaction.md R136, R137). `keep` marks
the one transfer whose reply is the transaction's result. -/
inductive BusOp where
  | acq
  | rel
  | csa
  | csd
  | dly (us : Nat)
  | xfer (tx : Byte) (keep : Bool)
deriving DecidableEq, Repr

/-- Where the Bus Transaction Layer stands inside the running micro-step (R11: a model may step by bus events; the
model's own field, log 10). -/
inductive Link where
  /-- No transaction. -/
  | idle
  /-- The transaction of `frame` is in progress and its event number `next` (t0, t1, ...) comes next. -/
  | carrying (frame : Frame) (next : Nat)
  /-- The transaction is over and the micro-step that asked for it has not ended yet. -/
  | ended
deriving DecidableEq, Repr

/-- Which result registers a command has written since reset (R25, R42; the model's own field, log 17). -/
structure ResultFlags where
  rdata  : Bool
  motion : Bool
  pixcnt : Bool
deriving DecidableEq, Repr

/-- Why the machine stops with a fault. None of these is reached from reset; each is SAFE (the model stops where
the spec gives no state to go on to). -/
inductive Fault where
  /-- A meaning was asked to run at a label that is none of its command's, or a list was indexed past its end:
  raised by the meanings of the commands and by the sequencer's decoding of the latched word. Safe (log 11). -/
  | sequencerLost (upc : Label)
  /-- A micro-step that starts a transaction was run while another is in progress (R65 forbids it): raised by `WR`
  and `RD`. Safe (log 11). -/
  | transactionOpen (frame : Frame)
  /-- A frame was carried past its transaction's last event: raised by the meanings of the wire frames. Safe (log 11). -/
  | transactionPast (frame : Frame) (next : Nat)
  /-- A frame-buffer write outside elements 0 to 1224, which do not exist (20_memory.md R60, R66, R305): raised by
  micro-step S5. Safe (log 9). -/
  | frameBufferIndex (i : Nat)
deriving DecidableEq, Repr

/-- Why a step has no meaning for what it was given. Each is SAFE. -/
inductive Refusal where
  /-- An instruction without a meaning in this model. Raised by `exec` alone, and by no arm of it. Safe. -/
  | notModelled (mnemonic : String)
  /-- The 16-bit word in the link is neither a write frame nor a read frame (30_encoding.md R100 to R102): raised by
  the sequencer, and never for a frame the engine formed. Safe (log 14). -/
  | notAWireFrame (frame : Frame)
deriving DecidableEq, Repr

/-- The whole state: the registers of Table 10-1, the frame buffer behind the write port, and the model's own fields
(inputs, output record, parameters, the place inside a micro-step), which INVENTORY.md lists apart. -/
structure State where
  -- the latched command (R21)
  op      : Byte
  argReg  : Byte
  argVal  : Byte
  -- the status registers (R22)
  busy    : Bool
  ok      : Bool
  err     : ErrCode
  istate  : InitState
  -- the device handle (R23)
  var     : Byte
  -- the working registers (R24)
  t       : Byte
  id0     : Byte
  id1     : Byte
  a       : Byte
  b       : Byte
  c1      : BitVec 9
  c2      : BitVec 14
  iter    : BitVec 11
  n       : BitVec 11
  idx     : Nat
  -- the result registers (R25)
  rdata   : Byte
  dx      : BitVec 16
  dy      : BitVec 16
  pixcnt  : BitVec 11
  -- the micro-program counter (R26)
  upc     : Label
  -- the line state (R27)
  csl     : Level
  session : Bool
  -- inside a micro-step (log 10), the polling bound (log 8), the result port (log 17)
  link    : Link
  rx      : Byte
  polls   : Nat
  written : ResultFlags
  -- the frame buffer (20_memory.md R66; log 9)
  fb      : List Host.Cell
  -- the environment's inputs: the sensor (log 2), the command port (log 3), `rst` (log 4)
  replies : List Byte
  xfers   : Nat
  cmdIn   : List Cmd
  rstIn   : List Bool
  -- the parameters (log 7) and the record of events, newest first (log 23)
  cfg     : Params
  trace   : List Event
deriving DecidableEq, Repr

/-- What a step or a meaning answers. -/
abbrev Out := Host.Outcome State Fault Refusal

/-- The machine right after reset: the values of R42; the registers R42 leaves unspecified hold zero (DESIGN CHOICE,
log 5); nothing written, nothing offered, no event. -/
def State.reset : State :=
  { op := 0x00#8, argReg := 0x00#8, argVal := 0x00#8,
    busy := false, ok := false, err := .none, istate := .uninit,
    var := 0x00#8,
    t := 0x00#8, id0 := 0x00#8, id1 := 0x00#8, a := 0x00#8, b := 0x00#8,
    c1 := 0#9, c2 := 0#14, iter := 0#11, n := 0#11, idx := 0,
    rdata := 0x00#8, dx := 0#16, dy := 0#16, pixcnt := 0#11,
    upc := .idle, csl := .deasserted, session := false,
    link := .idle, rx := 0x00#8, polls := 0,
    written := { rdata := false, motion := false, pixcnt := false },
    fb := [], replies := [], xfers := 0, cmdIn := [], rstIn := [],
    cfg := Config.params, trace := [] }

end Sys2Proof.Machine
end

