-- ==== Sys2Proof/Machine/Operands.lean ====
section
/-! DEFINITION. How operands and results are put together: address bytes and frames (30_encoding.md R101 to R103),
variant codes (R110), the tag (R111), the pixel (R112), the motion deltas (R113), narrowing (R114), the LED value
(R115), the calibration arithmetic (42_init.md R181), and the codes of the status registers (R22, R270). -/

namespace Sys2Proof.Machine

/-! ## Wire frames -/

/-- The address byte of a write: `0x80 | r` (R103). -/
def writeAddr (reg : Byte) : Byte := 0x80#8 ||| reg

/-- The address byte of a read: `r & 0x7F` (R103). -/
def readAddr (reg : Byte) : Byte := reg &&& 0x7F#8

/-- The frame of `WR(reg, val)` (R101): the address byte, then the value. -/
def writeFrame (reg val : Byte) : Frame := joinBytes (writeAddr reg) val

/-- The frame of `RD(reg)` (R102): the address byte, then the zero placeholder. -/
def readFrame (reg : Byte) : Frame := joinBytes (readAddr reg) 0x00#8

/-- The byte of a frame sent first, bits 15:8 (R100, R69). -/
def frameFirst (f : Frame) : Byte := f.extractLsb' 8 8

/-- A 7-bit address of a sequence item as the 8-bit operand of `WR` (R116). -/
def regByte (reg : RegAddr) : Byte := reg.setWidth 8

/-- The bits of a byte in the order they go on the wire, most significant first (R69, R135). -/
def wireBits (v : Byte) : List Bool :=
  [v.getLsbD 7, v.getLsbD 6, v.getLsbD 5, v.getLsbD 4, v.getLsbD 3, v.getLsbD 2, v.getLsbD 1, v.getLsbD 0]

/-! ## Frame protocol -/

/-- The tag of a byte read from 0x58, `v[7:6]` (R111). -/
def tagOf (v : Byte) : BitVec 2 := v.extractLsb' 6 2

/-- What the streaming loop does with a first byte (R236, R238). -/
inductive TagCase where
  /-- `0b01`, "upper-byte-valid": read the second byte. -/
  | upper
  /-- `0b00` or `0b11`, "invalid/not-ready": read again. -/
  | again
  /-- `0b10`: skip the iteration. -/
  | skip
deriving DecidableEq, Repr

/-- The four tag cases of S3 (R238). -/
def tagCase (v : Byte) : TagCase :=
  match tagOf v with
  | 0b01#2 => .upper
  | 0b10#2 => .skip
  | _ => .again

/-- `pixel = ((a << 2) & 0xFC) | (b & 0x03)` (R112). -/
def pixel (a b : Byte) : Byte := ((a <<< 2) &&& 0xFC#8) ||| (b &&& 0x03#8)

/-! ## Motion deltas -/

/-- A 16-bit result register with its bits 7:0 replaced (R113, R220). -/
def setLow (w : BitVec 16) (v : Byte) : BitVec 16 := joinBytes (w.extractLsb' 8 8) v

/-- A 16-bit result register with its bits 15:8 replaced (R113, R220). -/
def setHigh (w : BitVec 16) (v : Byte) : BitVec 16 := joinBytes v (w.extractLsb' 0 8)

/-- `signed_16`: the two's-complement reading of a delta (R9, R221). -/
def signed16 (w : BitVec 16) : Int := if w.toNat < 32768 then w.toNat else (w.toNat : Int) - 65536

/-! ## Calibration -/

/-- I34: add 14 up to 28, else 11, an unsigned compare (R181). -/
def c1Adjust (c : BitVec 9) : BitVec 9 := if c ≤ 28#9 then c + 14#9 else c + 11#9

/-- The smaller of two unsigned values. -/
def minU (x y : BitVec 9) : BitVec 9 := if x ≤ y then x else y

/-- The larger of two unsigned values. -/
def maxU (x y : BitVec 9) : BitVec 9 := if x ≤ y then y else x

/-- I35: `max(0, min(0x3F, C1))` (R181). -/
def c1Clamp (c : BitVec 9) : BitVec 9 := maxU 0#9 (minU 0x3F#9 c)

/-- I36: `C2 * 45`, the integer 45 (R181; 90_conflicts.md C7). -/
def c2Scale (c : BitVec 14) : BitVec 14 := c * 45#14

/-- The byte written for a wider value: its low 8 bits (R114). -/
def narrow {w : Nat} (v : BitVec w) : Byte := v.setWidth 8

/-! ## Variants, LED, codes -/

/-- The two sensor variants (R3). -/
inductive Variant where
  | variantA
  | variantB
deriving DecidableEq, Repr

/-- 0x00 is VariantA, 0x01 is VariantB, every other code neither (R110). -/
def variantOf (code : Byte) : Option Variant :=
  match code with
  | 0x00#8 => some .variantA
  | 0x01#8 => some .variantB
  | _ => none

/-- `LIST`: `BULK_A` for VariantA, `BULK_B` for VariantB (R171, R184). -/
def bulkItems (p : Params) (code : Byte) : Option (List SeqItem) :=
  match variantOf code with
  | some .variantA => some p.bulkA.items
  | some .variantB => some p.bulkB.items
  | none => none

/-- The byte SET_LED writes to 0x6F (R115). -/
def ledValue (on : Bool) : Byte := if on then 0x1C#8 else 0x00#8

/-- The 3-bit value of `ERR` (R270). -/
def ErrCode.code : ErrCode → BitVec 3
  | .none => 0#3
  | .identityMismatch => 1#3
  | .unsupportedVariant => 2#3
  | .illegalCommand => 3#3
  | .pollLimit => 4#3

/-- The 2-bit value of `ISTATE` (R22, Table 10-1). -/
def InitState.code : InitState → BitVec 2
  | .uninit => 0#2
  | .running => 1#2
  | .ready => 2#2
  | .failed => 3#2

end Sys2Proof.Machine
end

