-- ==== Sys2Proof/Machine/Flags.lean ====
section
/-! DEFINITION. The conditions the micro-steps branch on. The engine has no condition codes: each is computed from a
register and used at once (10_state.md R28). -/

namespace Sys2Proof.Machine

/-- I11, the permissive identity probe: BOTH replies mismatch (42_init.md R174). -/
def probeFails (id0 id1 : Byte) : Bool := id0 != Config.chipId && id1 != Config.invId

/-- I50, the strict final verification: EITHER reply mismatches (R186). -/
def finalFails (id0 id1 : Byte) : Bool := id0 != Config.chipId || id1 != Config.revOk

/-- I24: bit 7 of the reply of 0x67 (R177). -/
def highBit (t : Byte) : Bool := t.getLsbD 7

/-- I31: the reply of 0x73 is not 0x00, so the calibration block is skipped (R179). -/
def skipsCalibration (t : Byte) : Bool := t != 0x00#8

/-- I43: neither variant is selected (R184). -/
def variantUnsupported (code : Byte) : Bool := (variantOf code).isNone

/-- The ready gate polls again while the top two bits are both set (44_frame.md R231). -/
def gateBusy (t : Byte) : Bool := tagOf t == 0b11#2

/-- S1: all 1225 iterations are done (R236). -/
def loopDone (iter : BitVec 11) : Bool := iter == BitVec.ofNat 11 Config.framePixels

/-- The optional bound: a finite `POLL_LIMIT` has been reached by the reads counted in the running loop (R279). -/
def pollExhausted (limit : Option Nat) (polls : Nat) : Bool :=
  match limit with
  | none => false
  | some l => l ≤ polls

end Sys2Proof.Machine
end

