-- ==== Sys2Proof/Machine/Memory.lean ====
section
/-! DEFINITION. The frame buffer: 1225 elements the caller owns (20_memory.md R60, R66; 70_reset_and_hazards.md R305).
It is the list of the elements the engine has written, addresses strictly rising. An element not listed reads as no
value: it holds the caller's own content, which the engine neither reads nor clears (R66, U9; log 9). -/

namespace Sys2Proof.Machine

/-- The byte the engine has written to element `i`, if it has written one. -/
def Memory.read : List Host.Cell → Nat → Option Byte
  | [], _ => none
  | (k, v) :: rest, i => if k = i then some v else Memory.read rest i

/-- Write `v` to element `i`, keeping the list's order. -/
def Memory.write : List Host.Cell → Nat → Byte → List Host.Cell
  | [], i, v => [(i, v)]
  | (k, w) :: rest, i, v =>
    if i < k then (i, v) :: (k, w) :: rest
    else if i = k then (i, v) :: rest
    else (k, w) :: Memory.write rest i v

/-- Every address of the list is at least `lo`, they rise strictly, and all are elements of the buffer. -/
def Memory.risingFrom : Nat → List Host.Cell → Bool
  | _, [] => true
  | lo, (k, _) :: rest => decide (lo ≤ k) && decide (k < Config.framePixels) && Memory.risingFrom (k + 1) rest

/-- The canonical form: addresses strictly rising, all below 1225. (No listed entry can equal what an unlisted
element reads as, which is no value.) -/
def Memory.wf (m : List Host.Cell) : Bool := Memory.risingFrom 0 m

end Sys2Proof.Machine
end

