-- ==== Sys2Proof/Machine/Ops.lean ====
section
/-! DEFINITION. The shared operations of the engine: bus events and transactions (40_bus_transaction.md), the primitives
of 00_scope.md R10, acceptance (10_state.md R40), ending a command (60_exceptions.md R275, R276) and engine reset
(70_reset_and_hazards.md R300, R301). -/

namespace Sys2Proof.Machine

/-! ## Events and the sensor -/

/-- Record one bus event; the newest stands first (log 23). -/
def State.emit (e : Event) (s : State) : State := { s with trace := e :: s.trace }

/-- The sensor's answer to the coming byte transfer: the environment's next byte, or the free value of this transfer
(00_scope.md R14; log 2). -/
def State.sensorByte (s : State) : Byte :=
  match s.replies with
  | v :: _ => v
  | [] => Config.sensorReply s.xfers

/-- One byte transfer is over: its answer is used up. -/
def State.tookByte (s : State) : State := { s with replies := s.replies.tail, xfers := s.xfers + 1 }

/-- The event that drives chip-select to a level (R132). -/
def csEvent (l : Level) : Event :=
  match l with
  | .asserted => .csa
  | .deasserted => .csd

/-- `CSA`, `CSD`: an assignment, not a toggle, recorded whatever the level was (R132). -/
def State.driveCs (l : Level) (s : State) : State := State.emit (csEvent l) { s with csl := l }

/-- `XFER(tx, rx)`: the reply is discarded, or kept as the transaction's result (R133, R137). -/
def State.transfer (tx : Byte) (keep : Bool) (s : State) : State :=
  State.emit (.xfer tx s.sensorByte)
    { s.tookByte with rx := if keep then s.sensorByte else s.rx }

/-- One operation of a transaction (R131 to R134). -/
def State.busOp (op : BusOp) (s : State) : State :=
  match op with
  | .acq => State.emit .acq { s with session := true }
  | .rel => State.emit .rel { s with session := false }
  | .csa => s.driveCs .asserted
  | .csd => s.driveCs .deasserted
  | .dly us => s.emit (.dly us)
  | .xfer tx keep => s.transfer tx keep

/-! ## The two transactions -/

/-- `TXW(a, d)`: ten events (R136). -/
def txw (a d : Byte) : List BusOp :=
  [.acq, .csa, .dly Config.tCsSetup, .xfer a false, .dly Config.tAddrData, .xfer d false, .dly Config.tWrHold,
   .csd, .rel, .dly Config.tWrPost]

/-- `TXR(a)`: nine events; the dummy byte is zero and its reply is the result (R137). -/
def txr (a : Byte) : List BusOp :=
  [.acq, .csa, .dly Config.tCsSetup, .xfer a false, .dly Config.tAddrData, .xfer 0x00#8 true, .dly Config.tRdHold,
   .csd, .rel]

/-- The number of the transaction's next event: t0 where none is in progress. -/
def State.position (s : State) : Nat :=
  match s.link with
  | .carrying _ k => k
  | .idle => 0
  | .ended => 0

/-- The link after event number `k` of `len`: the next event, or the end. A transaction no micro-step waits for ends in
an idle link. -/
def linkAfter (frame : Frame) (k len : Nat) (busy : Bool) : Link :=
  if k + 1 < len then .carrying frame (k + 1)
  else if busy then .ended
  else .idle

/-- Carry a wire frame one bus event further. -/
def carryFrame (frame : Frame) (ops : List BusOp) (s : State) : Out :=
  match ops[s.position]? with
  | some op => .next { s.busOp op with link := linkAfter frame s.position ops.length s.busy }
  | none => .fault (.transactionPast frame s.position)

/-! ## Micro-steps -/

/-- `upc <- target`, or the next label (R10, R26). -/
def State.goto (l : Label) (s : State) : State := { s with upc := l }

/-- `WR(reg, val)`: put the write frame on the link; when its ten events are over, go on (41_register_access.md R150). -/
def wr (reg val : Byte) (next : Label) (s : State) : Out :=
  match s.link with
  | .idle => .next { s with link := .carrying (writeFrame reg val) 0 }
  | .ended => .next { s with link := .idle, upc := next }
  | .carrying f _ => .fault (.transactionOpen f)

/-- `X <- RD(reg)`: put the read frame on the link; when its nine events are over, store the reply and go on (R151). -/
def rd (reg : Byte) (store : Byte → State → State) (next : Label) (s : State) : Out :=
  match s.link with
  | .idle => .next { s with link := .carrying (readFrame reg) 0 }
  | .ended => .next { store s.rx s with link := .idle, upc := next }
  | .carrying f _ => .fault (.transactionOpen f)

/-- `DLY(n)` as a micro-step (40_bus_transaction.md R134). -/
def wait (us : Nat) (next : Label) (s : State) : Out := .next ((s.emit (.dly us)).goto next)

/-- `CSA`, `CSD` as a micro-step (42_init.md R172). -/
def pulse (l : Level) (next : Label) (s : State) : Out := .next ((s.driveCs l).goto next)

/-- `FB[N] <- pixel`: one write of the frame buffer and one `FBW` event (44_frame.md R237, 20_memory.md R66). -/
def storePixel (v : Byte) (next : Label) (s : State) : Out :=
  if s.n.toNat < Config.framePixels then
    .next (State.goto next (State.emit (.fbw s.n.toNat v) { s with fb := Memory.write s.fb s.n.toNat v }))
  else .fault (.frameBufferIndex s.n.toNat)

/-! ## Accepting and ending a command -/

/-- The bytes of an accepted word, and the word off the port (R21, R40). -/
def State.latch (w : Cmd) (s : State) : State :=
  { s with op := cmdOp w, argReg := cmdReg w, argVal := cmdVal w, cmdIn := s.cmdIn.tail }

/-- The word the latched command was (R21). -/
def State.latched (s : State) : Cmd := cmdWord s.op s.argReg s.argVal

/-- `BUSY <- 1` and `UPC` to the command's first micro-step (R40, 30_encoding.md R107). -/
def State.dispatchTo (l : Label) (s : State) : State := { s with busy := true, upc := l }

/-- `done`: a command ends without error (60_exceptions.md R276). -/
def State.done (s : State) : State := { s with err := .none, ok := true, busy := false, upc := .idle }

/-- `raise Failed(code)`: the engine's trap entry. Nothing is saved and nothing undone (R275). -/
def State.raiseFailed (code : ErrCode) (s : State) : State :=
  { s with err := code, ok := false, busy := false, upc := .idle }

/-- INIT's Failed transition: `ISTATE <- Failed` in the same micro-step (R275, 42_init.md R171). -/
def State.initFailed (code : ErrCode) (s : State) : State := { s.raiseFailed code with istate := .failed }

/-! ## Engine reset -/

/-- What reset does to the lines, newest first: it closes an open session and forces chip-select to deasserted, and
emits nothing else (70_reset_and_hazards.md R300; log 12). -/
def State.resetEvents (s : State) : List Event :=
  (if s.session then [.rel] else []) ++ (if s.csl = .asserted then [.csd] else [])

/-- Engine reset, at any step (R300, R301): the values of 10_state.md R42. A register R42 leaves unspecified keeps its
bits and counts as not written (log 6); the frame buffer, the sensor's inputs, the offered words and the parameters
are not the engine's to reset. -/
def State.engineReset (s : State) : State :=
  { s with
    busy := false, ok := false, err := .none, istate := .uninit, upc := .idle,
    csl := .deasserted, session := false, link := .idle,
    written := { rdata := false, motion := false, pixcnt := false },
    trace := s.resetEvents ++ s.trace }

/-- `rst` in the coming step (log 4). -/
def State.rstNow (s : State) : Bool := s.rstIn.headD false

/-- One step of `rst` has passed. -/
def State.clock (s : State) : State := { s with rstIn := s.rstIn.tail }

end Sys2Proof.Machine
end

