-- ==== Sys2Proof/Machine/Init.lean ====
section
/-! DEFINITION. The meaning of INIT (42_init.md R170 to R189): the micro-step list of R171, one micro-step a step. -/

namespace Sys2Proof.Machine

/-- `T <- v`. -/
@[simp] def State.setT (v : Byte) (s : State) : State := { s with t := v }
/-- `ID0 <- v`. -/
@[simp] def State.setId0 (v : Byte) (s : State) : State := { s with id0 := v }
/-- `ID1 <- v`. -/
@[simp] def State.setId1 (v : Byte) (s : State) : State := { s with id1 := v }
/-- `C1 <- zext_9(v)` (R180). -/
@[simp] def State.setC1 (v : Byte) (s : State) : State := { s with c1 := v.setWidth 9 }
/-- `C2 <- zext_14(v)` (R180). -/
@[simp] def State.setC2 (v : Byte) (s : State) : State := { s with c2 := v.setWidth 14 }

/-- I45: the loop test of the bulk load (R184). -/
def bulkTest (s : State) : Out :=
  match bulkItems s.cfg s.var with
  | some list => .next (s.goto (if s.idx = list.length then .i48 else .i46))
  | none => .fault (.sequencerLost s.upc)

/-- I46: the item the bulk load is at, if there is one. -/
def State.bulkItem (s : State) : Option SeqItem :=
  match bulkItems s.cfg s.var with
  | some list => list[s.idx]?
  | none => none

/-- I46: apply one item, a write or the 100 ms pause (R184). -/
def bulkApply (s : State) : Out :=
  match s.bulkItem with
  | some (.write w) => wr (regByte w.reg) w.val .i47 s
  | some .pause => wait Config.tBulkPause .i47 s
  | none => .fault (.sequencerLost s.upc)

/-- INIT: the list of R171, label for label. -/
def execInit (variant : Byte) (s : State) : Out :=
  match s.upc with
  | .idle => .next (s.dispatchTo .i00)
  -- entry
  | .i00 => .next { s with var := variant, istate := .running, upc := .i01 }
  -- step 1: bus reset (R172)
  | .i01 => pulse .asserted .i02 s
  | .i02 => wait Config.tResetEdge .i03 s
  | .i03 => pulse .deasserted .i04 s
  | .i04 => wait Config.tResetEdge .i05 s
  | .i05 => pulse .asserted .i06 s
  | .i06 => wait Config.tResetEdge .i07 s
  -- step 2: power-on command (R173)
  | .i07 => wr 0x3A#8 0x5A#8 .i08 s
  | .i08 => wait Config.tPowerOn .i09 s
  -- step 3: identity probe (R174)
  | .i09 => rd 0x00#8 State.setId0 .i10 s
  | .i10 => rd 0x5F#8 State.setId1 .i11 s
  | .i11 => .next (if probeFails s.id0 s.id1 then s.initFailed .identityMismatch else s.goto .i12)
  -- step 4: motion-register priming reads (R175)
  | .i12 => rd 0x02#8 State.setT .i13 s
  | .i13 => rd 0x03#8 State.setT .i14 s
  | .i14 => rd 0x04#8 State.setT .i15 s
  | .i15 => rd 0x05#8 State.setT .i16 s
  | .i16 => rd 0x06#8 State.setT .i17 s
  | .i17 => wait Config.tPrime .i18 s
  -- step 5: tuning sequence (R176 to R183)
  | .i18 => wr Config.bankReg 0x00#8 .i19 s
  | .i19 => wr 0x55#8 0x01#8 .i20 s
  | .i20 => wr 0x50#8 0x07#8 .i21 s
  | .i21 => wr Config.bankReg 0x0E#8 .i22 s
  | .i22 => wr 0x43#8 0x10#8 .i23 s
  | .i23 => rd 0x67#8 State.setT .i24 s
  | .i24 => wr 0x48#8 (if highBit s.t then 0x04#8 else 0x02#8) .i25 s
  | .i25 => wr Config.bankReg 0x00#8 .i26 s
  | .i26 => wr 0x51#8 0x7B#8 .i27 s
  | .i27 => wr 0x50#8 0x00#8 .i28 s
  | .i28 => wr 0x55#8 0x00#8 .i29 s
  | .i29 => wr Config.bankReg 0x0E#8 .i30 s
  | .i30 => rd 0x73#8 State.setT .i31 s
  | .i31 => .next (s.goto (if skipsCalibration s.t then .i43 else .i32))
  | .i32 => rd 0x70#8 State.setC1 .i33 s
  | .i33 => rd 0x71#8 State.setC2 .i34 s
  | .i34 => .next { s with c1 := c1Adjust s.c1, upc := .i35 }
  | .i35 => .next { s with c1 := c1Clamp s.c1, upc := .i36 }
  | .i36 => .next { s with c2 := c2Scale s.c2, upc := .i37 }
  | .i37 => wr Config.bankReg 0x00#8 .i38 s
  | .i38 => wr 0x61#8 0xAD#8 .i39 s
  | .i39 => wr 0x51#8 0x70#8 .i40 s
  | .i40 => wr Config.bankReg 0x0E#8 .i41 s
  | .i41 => wr 0x70#8 (narrow s.c1) .i42 s
  | .i42 => wr 0x71#8 (narrow s.c2) .i43 s
  -- step 6: variant bulk load (R184, R185)
  | .i43 => .next (if variantUnsupported s.var then s.initFailed .unsupportedVariant else s.goto .i44)
  | .i44 => .next { s with idx := 0, upc := .i45 }
  | .i45 => bulkTest s
  | .i46 => bulkApply s
  | .i47 => .next { s with idx := s.idx + 1, upc := .i45 }
  -- step 7: final identity verification (R186)
  | .i48 => rd 0x00#8 State.setId0 .i49 s
  | .i49 => rd 0x01#8 State.setId1 .i50 s
  | .i50 => .next (if finalFails s.id0 s.id1 then s.initFailed .identityMismatch else s.goto .i51)
  | .i51 => .next { s.done with istate := .ready }
  | l => .fault (.sequencerLost l)

end Sys2Proof.Machine
end

