-- ==== Sys2Proof/Machine/FrameReader.lean ====
section
/-! DEFINITION. The meanings of FRAME_ENABLE, FRAME_STREAM and FRAME_READ (44_frame.md R230 to R244): the three phases
once, and one command each over them. -/

namespace Sys2Proof.Machine

/-- The phases of the frame protocol, and what is in none (R230, R26). -/
inductive FramePhase where
  | enable
  | stream
  | completion
  | outside
deriving DecidableEq, Repr

/-- The phase a label belongs to (R232, R236, R240). -/
def framePhase (l : Label) : FramePhase :=
  match l with
  | .e0 | .e1 | .e2 | .e3 | .eg0 | .eg1 | .eg2 | .eg3 | .e4 | .e5 => .enable
  | .s0 | .s1 | .s2 | .s3 | .s4 | .s5 | .s6 | .s7 | .s8 => .stream
  | .cg0 | .cg1 | .cg2 | .cg3 | .c4 => .completion
  | _ => .outside

/-- A read of 0x58 inside a polling loop, into `T`, counted (R231, R279). -/
@[simp] def State.setTPolled (v : Byte) (s : State) : State := { s with t := v, polls := s.polls + 1 }
/-- A first read of a pixel, into `A`, counted (R236, R279). -/
@[simp] def State.setAPolled (v : Byte) (s : State) : State := { s with a := v, polls := s.polls + 1 }
/-- `B <- v` (R237). -/
@[simp] def State.setB (v : Byte) (s : State) : State := { s with b := v }

/-- Go round a polling loop again, or end the command where the optional bound is reached (R277, R279). `PIXCNT` is not
written here, so at CG3 it keeps what S8 has written in the same command (DESIGN CHOICE, log 24). -/
def State.pollAgain (l : Label) (s : State) : State :=
  if pollExhausted s.cfg.pollLimit s.polls then s.raiseFailed .pollLimit else s.goto l

/-- The second write of the ready gate, `xG1`; it enters the polling loop, whose count starts at 0 (R231, R279). -/
def gateArm (next : Label) (s : State) : Out :=
  wr Config.frameReg 0xFF#8 next { s with polls := 0 }

/-- The test of the ready gate, `xG3`: poll again at `poll`, or go on at `exit` (R231). -/
def gateTest (poll exit : Label) (s : State) : Out :=
  .next (if gateBusy s.t then s.pollAgain poll else s.goto exit)

/-- E2: the item of `FRAME_ENABLE_SEQ` at `IDX` (R232). -/
def enableWrite (s : State) : Out :=
  match s.cfg.frameEnableSeq[s.idx]? with
  | some w => wr (regByte w.reg) w.val .e3 s
  | none => .fault (.sequencerLost s.upc)

/-- Enable phase (R232). -/
def enablePhase (s : State) : Out :=
  match s.upc with
  | .e0 => .next { s with idx := 0, upc := .e1 }
  | .e1 => .next (s.goto (if s.idx = 9 then .eg0 else .e2))
  | .e2 => enableWrite s
  | .e3 => .next { s with idx := s.idx + 1, upc := .e1 }
  | .eg0 => wr 0x70#8 0x00#8 .eg1 s
  | .eg1 => gateArm .eg2 s
  | .eg2 => rd Config.frameReg State.setTPolled .eg3 s
  | .eg3 => gateTest .eg2 .e4 s
  | .e4 => wait Config.tFrameSettle .e5 s
  | .e5 => .next (if s.op = 0x05#8 then s.done else s.goto .s0)
  | l => .fault (.sequencerLost l)

/-- S3: the four tag cases (R236, R238). -/
def classify (s : State) : State :=
  match tagCase s.a with
  | .upper => s.goto .s4
  | .again => s.pollAgain .s2
  | .skip => s.goto .s7

/-- Streaming phase (R236, R239). S8 writes `PIXCNT` before the completion phase, and a finite bound reached there does not
take it back (DESIGN CHOICE, log 24). -/
def streamPhase (s : State) : Out :=
  match s.upc with
  | .s0 => .next { s with iter := 0#11, n := 0#11, upc := .s1 }
  | .s1 => .next (if loopDone s.iter then s.goto .s8 else { s with polls := 0, upc := .s2 })
  | .s2 => rd Config.frameReg State.setAPolled .s3 s
  | .s3 => .next (classify s)
  | .s4 => rd Config.frameReg State.setB .s5 s
  | .s5 => storePixel (pixel s.a s.b) .s6 s
  | .s6 => .next { s with n := s.n + 1#11, upc := .s7 }
  | .s7 => .next { s with iter := s.iter + 1#11, upc := .s1 }
  | .s8 => .next { s with pixcnt := s.n, written := { s.written with pixcnt := true }, upc := .cg0 }
  | l => .fault (.sequencerLost l)

/-- Completion phase: the ready gate without a settle wait, then `done` (R240). -/
def completionPhase (s : State) : Out :=
  match s.upc with
  | .cg0 => wr 0x70#8 0x00#8 .cg1 s
  | .cg1 => gateArm .cg2 s
  | .cg2 => rd Config.frameReg State.setTPolled .cg3 s
  | .cg3 => gateTest .cg2 .c4 s
  | .c4 => .next s.done
  | l => .fault (.sequencerLost l)

/-- FRAME_ENABLE: the enable phase, then `done` at E5 (R233). -/
def execFrameEnable (s : State) : Out :=
  match s.upc, framePhase s.upc with
  | .idle, _ => .next (s.dispatchTo .e0)
  | _, .enable => enablePhase s
  | l, _ => .fault (.sequencerLost l)

/-- FRAME_STREAM: the streaming phase, then the completion phase (R240). -/
def execFrameStream (s : State) : Out :=
  match s.upc, framePhase s.upc with
  | .idle, _ => .next (s.dispatchTo .s0)
  | _, .stream => streamPhase s
  | _, .completion => completionPhase s
  | l, _ => .fault (.sequencerLost l)

/-- FRAME_READ: enable, streaming, completion; E5 goes on to S0 (R241). -/
def execFrameRead (s : State) : Out :=
  match s.upc, framePhase s.upc with
  | .idle, _ => .next (s.dispatchTo .e0)
  | _, .enable => enablePhase s
  | _, .stream => streamPhase s
  | _, .completion => completionPhase s
  | l, _ => .fault (.sequencerLost l)

end Sys2Proof.Machine
end

