-- ==== Sys2Proof/Machine/Led.lean ====
section
/-! DEFINITION. The meaning of SET_LED (45_led.md R260 to R262), one micro-step a step. -/

namespace Sys2Proof.Machine

/-- SET_LED: the list of R260. No LED state is kept (R261). -/
def execSetLed (on : Bool) (s : State) : Out :=
  match s.upc with
  | .idle => .next (s.dispatchTo .l0)
  | .l0 => wait Config.tLedSettle .l1 s
  | .l1 => wr Config.bankReg 0x14#8 .l2 s
  | .l2 => wr 0x6F#8 (ledValue on) .l3 s
  | .l3 => wr Config.bankReg 0x00#8 .l4 s
  | .l4 => .next s.done
  | l => .fault (.sequencerLost l)

end Sys2Proof.Machine
end

