-- ==== Sys2Proof/Machine/Motion.lean ====
section
/-! DEFINITION. The meaning of READ_MOTION (43_motion.md R220 to R223), one micro-step a step. -/

namespace Sys2Proof.Machine

/-- `DX[7:0] <- v`. -/
@[simp] def State.setDxLow (v : Byte) (s : State) : State := { s with dx := setLow s.dx v }
/-- `DX[15:8] <- v`. -/
@[simp] def State.setDxHigh (v : Byte) (s : State) : State := { s with dx := setHigh s.dx v }
/-- `DY[7:0] <- v`. -/
@[simp] def State.setDyLow (v : Byte) (s : State) : State := { s with dy := setLow s.dy v }
/-- `DY[15:8] <- v`, the last byte of the pair; from now on the host may read both (R25). -/
@[simp] def State.setDyHigh (v : Byte) (s : State) : State :=
  { s with dy := setHigh s.dy v, written := { s.written with motion := true } }

/-- READ_MOTION: the list of R220. -/
def execReadMotion (s : State) : Out :=
  match s.upc with
  | .idle => .next (s.dispatchTo .m0)
  | .m0 => rd 0x02#8 State.setT .m1 s
  | .m1 => rd 0x03#8 State.setDxLow .m2 s
  | .m2 => rd 0x04#8 State.setDxHigh .m3 s
  | .m3 => rd 0x05#8 State.setDyLow .m4 s
  | .m4 => rd 0x06#8 State.setDyHigh .m5 s
  | .m5 => .next s.done
  | l => .fault (.sequencerLost l)

end Sys2Proof.Machine
end

