-- ==== Sys2Proof/Machine/Registers.lean ====
section
/-! DEFINITION. The meanings of REG_WRITE and REG_READ (41_register_access.md R154, R155), one micro-step a step. -/

namespace Sys2Proof.Machine

/-- REG_WRITE: `W0 WR(ARG_REG, ARG_VAL); W1 done` (R154). -/
def execRegWrite (reg val : Byte) (s : State) : Out :=
  match s.upc with
  | .idle => .next (s.dispatchTo .w0)
  | .w0 => wr reg val .w1 s
  | .w1 => .next s.done
  | l => .fault (.sequencerLost l)

/-- `RDATA <- v` (R155); from now on the host may read it (R25). -/
@[simp] def State.setRdata (v : Byte) (s : State) : State := { s with rdata := v, written := { s.written with rdata := true } }

/-- REG_READ: `Q0 RDATA <- RD(ARG_REG); Q1 done` (R155). -/
def execRegRead (reg : Byte) (s : State) : Out :=
  match s.upc with
  | .idle => .next (s.dispatchTo .q0)
  | .q0 => rd reg State.setRdata .q1 s
  | .q1 => .next s.done
  | l => .fault (.sequencerLost l)

end Sys2Proof.Machine
end

