-- ==== Sys2Proof/Machine/WireFrames.lean ====
section
/-! DEFINITION. The meanings of the wire frames WFRAME and RFRAME: one bus event of their transaction a step
(40_bus_transaction.md R136, R137; 30_encoding.md R100 to R102). -/

namespace Sys2Proof.Machine

/-- WFRAME: the next event of `TXW(0x80 | reg, val)` (R136, R150). -/
def execWframe (reg : RegAddr) (val : Byte) (s : State) : Out :=
  carryFrame (wframeBits reg val) (txw (writeAddr (regByte reg)) val) s

/-- RFRAME: the next event of `TXR(reg)`; the reply of its second transfer is the result (R137, R151). -/
def execRframe (reg : RegAddr) (s : State) : Out :=
  carryFrame (rframeBits reg) (txr (readAddr (regByte reg))) s

end Sys2Proof.Machine
end

