-- ==== Sys2Proof/Machine/Dispatch.lean ====
section
/-! DEFINITION. One arm per instruction. -/

namespace Sys2Proof.Machine

def exec (i : Instr) (s : State) : Host.Outcome State Fault Refusal :=
  match i with
  | .regWrite reg val => Sys2Proof.Machine.execRegWrite reg val s
  | .regRead reg => Sys2Proof.Machine.execRegRead reg s
  | .init variant => Sys2Proof.Machine.execInit variant s
  | .readMotion => Sys2Proof.Machine.execReadMotion s
  | .frameEnable => Sys2Proof.Machine.execFrameEnable s
  | .frameStream => Sys2Proof.Machine.execFrameStream s
  | .frameRead => Sys2Proof.Machine.execFrameRead s
  | .setLed on => Sys2Proof.Machine.execSetLed on s
  | .wframe reg val => Sys2Proof.Machine.execWframe reg val s
  | .rframe reg => Sys2Proof.Machine.execRframe reg s

end Sys2Proof.Machine
end

