-- ==== Sys2Proof/Machine/Sequencer.lean ====
section
/-! DEFINITION. What the engine does in one step outside reset: carry the frame in the link one event further, run the
latched command one micro-step further, accept an offered word, or wait (00_scope.md R8, R11; 10_state.md R26, R40;
log 1). And how a word is placed where the coming step fetches it. -/

namespace Sys2Proof.Machine

/-- The frame in the link goes one event further (40_bus_transaction.md R136, R137). -/
def runFrame (f : Frame) (s : State) : Out :=
  match decodeFrame f with
  | .ok i => exec i s
  | .error _ => .refused (.notAWireFrame f)

/-- The running command, read from the latched word, goes one micro-step further (R21, R26; log 19). -/
def runCommand (s : State) : Out :=
  match decodeCommand s.latched with
  | .ok i => exec i s
  | .error _ => .fault (.sequencerLost s.upc)

/-- A word is accepted: it is latched and dispatched, or ends at once as illegal (R40, 30_encoding.md R107, R109,
60_exceptions.md R273; log 18). -/
def acceptWord (w : Cmd) (s : State) : Out :=
  match decodeCommand w with
  | .ok i => exec i (s.latch w)
  | .error _ => .next ((s.latch w).raiseFailed .illegalCommand)

/-- The idle engine accepts the word offered, or waits (R40, R300). -/
def pollPort (s : State) : Out :=
  match s.cmdIn with
  | w :: _ => acceptWord w s
  | [] => .next s

/-- One step of the engine while `rst` is not asserted. -/
def advance (s : State) : Out :=
  match s.link with
  | .carrying f _ => runFrame f s
  | .idle => if s.busy then runCommand s else pollPort s
  | .ended => if s.busy then runCommand s else pollPort s

/-- `s` with `rst` not asserted in the coming step. -/
def State.rstReleased (s : State) : State := { s with rstIn := s.rstIn.dropWhile id }

/-- `s` idle, with the command word `w` offered first (log 13). -/
def State.offerNow (w : Cmd) (s : State) : State :=
  { s.rstReleased with busy := false, upc := .idle, link := .idle, cmdIn := w :: s.cmdIn }

/-- `s` with the frame `f` on the link, none of its events emitted yet (log 13). -/
def State.carryNow (f : Frame) (s : State) : State := { s.rstReleased with link := .carrying f 0 }

/-- `s` with a word of the opcode table's numbering where the coming step fetches it: 24 bits a command word, 16 bits a
wire frame. -/
def State.placeWord (s : State) (nbits w : Nat) : State :=
  match nbits with
  | 24 => s.offerNow (BitVec.ofNat 24 w)
  | 16 => s.carryNow (BitVec.ofNat 16 w)
  | _ => s

end Sys2Proof.Machine
end

