-- ==== Sys2Proof/Machine/Step.lean ====
section
/-! DEFINITION. One step of the machine: reset where `rst` is asserted, which overrides everything (60_exceptions.md
R282, 70_reset_and_hazards.md R300), else one step of the engine. -/

namespace Sys2Proof.Machine

/-- One step. -/
def step (s : State) : Host.Outcome State Fault Refusal :=
  if s.rstNow then .next s.clock.engineReset else advance s.clock

/-- `s` with the instruction whose word is `w` placed so that the very next step runs it (log 13). -/
def State.withFetchWord (s : State) (nbits w : Nat) : State := s.placeWord nbits w

end Sys2Proof.Machine
end

