-- ==== Sys2Proof/Machine/Ports.lean ====
section
/-! DEFINITION. What the host and the bus see of a state (10_state.md R40), and the floors of a trace
(70_reset_and_hazards.md R320 to R322). None of it changes a state. -/

namespace Sys2Proof.Machine

/-- `cmd_ready = not BUSY` (R40 a). -/
def State.cmdReady (s : State) : Bool := !s.busy

/-- The status port (R40 b). -/
structure StatusPort where
  busy   : Bool
  ok     : Bool
  err    : BitVec 3
  istate : BitVec 2
deriving DecidableEq, Repr

/-- `BUSY`, `OK`, `ERR`, `ISTATE`, readable at any time (R40 b, R22). -/
def State.statusPort (s : State) : StatusPort :=
  { busy := s.busy, ok := s.ok, err := s.err.code, istate := s.istate.code }

/-- A result read by the host: meaningful with `BUSY = 0` and once a command has written it, else no value (R40 c, R25,
R42; log 17). -/
def State.resultIf {α : Type} (s : State) (written : Bool) (v : α) : Option α :=
  if !s.busy && written then some v else none

/-- `RDATA` at the result port. -/
def State.readRdata (s : State) : Option Byte := s.resultIf s.written.rdata s.rdata

/-- `DX` at the result port, the 16-bit pattern (R221). -/
def State.readDx (s : State) : Option (BitVec 16) := s.resultIf s.written.motion s.dx

/-- `DY` at the result port. -/
def State.readDy (s : State) : Option (BitVec 16) := s.resultIf s.written.motion s.dy

/-- deltaX and deltaY, the two's-complement readings (R221). -/
def State.readDeltas (s : State) : Option (Int × Int) :=
  s.resultIf s.written.motion (signed16 s.dx, signed16 s.dy)

/-- `PIXCNT` at the result port. -/
def State.readPixcnt (s : State) : Option (BitVec 11) := s.resultIf s.written.pixcnt s.pixcnt

/-- The frame-buffer write port's pulse for an event: `fb_addr` and `fb_data` (R40 d). -/
def Event.fbPulse (e : Event) : Option (BitVec 11 × Byte) :=
  match e with
  | .fbw i v => some (BitVec.ofNat 11 i, v)
  | .acq | .rel | .csa | .csd | .dly _ | .xfer _ _ => none

/-- The electrical level of the chip-select pin, high or not (40_bus_transaction.md R132; log 22). -/
def State.csPinHigh (s : State) : Bool :=
  match s.csl with
  | .asserted => !Config.csActiveLow
  | .deasserted => Config.csActiveLow

/-- The events emitted so far, oldest first (R12). -/
def State.events (s : State) : List Event := s.trace.reverse

/-- The lower bound an event carries, in microseconds; byte transfers are left out, as R320 leaves them out. -/
def Event.floor (e : Event) : Nat :=
  match e with
  | .dly us => us
  | .acq | .rel | .csa | .csd | .xfer _ _ | .fbw _ _ => 0

/-- The floor of a sequence of events (R320, R322). -/
def floorSum (es : List Event) : Nat := (es.map Event.floor).sum

/-! ## The events of a transaction, as the rules print them -/

/-- The ten events of `TXW(a, d)`, the sensor answering `r1` and `r2` (R136). -/
def txwEvents (a d r1 r2 : Byte) : List Event :=
  [.acq, .csa, .dly 50, .xfer a r1, .dly 50, .xfer d r2, .dly 50, .csd, .rel, .dly 200]

/-- The nine events of `TXR(a)`, the sensor answering `r1` and `rx` (R137). -/
def txrEvents (a r1 rx : Byte) : List Event :=
  [.acq, .csa, .dly 50, .xfer a r1, .dly 50, .xfer 0x00#8 rx, .dly 100, .csd, .rel]

end Sys2Proof.Machine
end

