-- ==== Sys2Proof/Safety.lean ====
section
/-! DEFINITION. The invariant of the engine: what every state it can be in satisfies, in the terms the statements use. -/

namespace Sys2Proof.Machine

/-- The labels of INIT (10_state.md R26). -/
def isInitLabel (l : Label) : Bool :=
  match l with
  | .i00 | .i01 | .i02 | .i03 | .i04 | .i05 | .i06 | .i07 | .i08 | .i09 | .i10 | .i11 | .i12 | .i13 | .i14 | .i15
  | .i16 | .i17 | .i18 | .i19 | .i20 | .i21 | .i22 | .i23 | .i24 | .i25 | .i26 | .i27 | .i28 | .i29 | .i30 | .i31
  | .i32 | .i33 | .i34 | .i35 | .i36 | .i37 | .i38 | .i39 | .i40 | .i41 | .i42 | .i43 | .i44 | .i45 | .i46 | .i47
  | .i48 | .i49 | .i50 | .i51 => true
  | _ => false

/-- The labels of a command's micro-steps (R26). The wire frames have none: they run inside a micro-step. -/
def labelOf (i : Instr) (l : Label) : Bool :=
  match i with
  | .regWrite _ _ => l == .w0 || l == .w1
  | .regRead _ => l == .q0 || l == .q1
  | .init _ => isInitLabel l
  | .readMotion => l == .m0 || l == .m1 || l == .m2 || l == .m3 || l == .m4 || l == .m5
  | .frameEnable => framePhase l == .enable
  | .frameStream => framePhase l == .stream || framePhase l == .completion
  | .frameRead => framePhase l != .outside
  | .setLed _ => l == .l0 || l == .l1 || l == .l2 || l == .l3 || l == .l4
  | .wframe _ _ => false
  | .rframe _ => false

/-- The micro-step at `UPC` is one transaction, a `WR` or an `RD` (41_register_access.md R152). -/
def State.transacts (s : State) : Bool :=
  match s.upc with
  | .w0 | .q0
  | .i07 | .i09 | .i10 | .i12 | .i13 | .i14 | .i15 | .i16
  | .i18 | .i19 | .i20 | .i21 | .i22 | .i23 | .i24 | .i25 | .i26 | .i27 | .i28 | .i29 | .i30
  | .i32 | .i33 | .i37 | .i38 | .i39 | .i40 | .i41 | .i42 | .i48 | .i49
  | .m0 | .m1 | .m2 | .m3 | .m4
  | .e2 | .eg0 | .eg1 | .eg2 | .s2 | .s4 | .cg0 | .cg1 | .cg2
  | .l1 | .l2 | .l3 => true
  | .i46 =>
    match s.bulkItem with
    | some (.write _) => true
    | some .pause => false
    | none => false
  | _ => false

/-- `UPC = IDLE` exactly when `BUSY = 0`, and while a command runs `UPC` is one of its labels (R26). -/
def State.sequenced (s : State) : Bool :=
  (s.busy == (s.upc != .idle)) &&
  (!s.busy ||
    match decodeCommand s.latched with
    | .ok i => labelOf i s.upc
    | .error _ => false)

/-- The number of events in the transaction of a frame (R136, R137); none for a word that is no frame. -/
def frameLength (f : Frame) : Nat :=
  match decodeFrame f with
  | .ok (.wframe _ _) => 10
  | .ok (.rframe _) => 9
  | .ok _ => 0
  | .error _ => 0

/-- A transaction is in progress only for a micro-step that is one, at one of its events (R65, R139). -/
def State.linked (s : State) : Bool :=
  match s.link with
  | .idle => true
  | .carrying f k => decide (k < frameLength f) && (!s.busy || s.transacts)
  | .ended => s.busy && s.transacts

/-- The level of chip-select outside a transaction: deasserted but for the reset pulse of INIT (R139, R141, R172). -/
def restLevel (l : Label) : Level :=
  match l with
  | .i02 | .i03 | .i06 | .i07 => .asserted
  | _ => .deasserted

/-- The level of chip-select, given the place inside a transaction (R136, R137). -/
def State.levelDue (s : State) : Level :=
  match s.link with
  | .idle => restLevel s.upc
  | .carrying _ k => if k ≤ 1 then restLevel s.upc else if k ≤ 7 then .asserted else .deasserted
  | .ended => .deasserted

/-- Whether a bus session is open, given the place inside a transaction (R136, R137). -/
def State.sessionDue (s : State) : Bool :=
  match s.link with
  | .idle => false
  | .carrying _ k => decide (1 ≤ k) && decide (k ≤ 8)
  | .ended => false

/-- `CSL` and `SESSION` are where the transaction and the pulse put them (R27, R139). -/
def State.lined (s : State) : Bool := s.csl == s.levelDue && s.session == s.sessionDue

/-- `OK = 1` goes with `ERR = 0`; `ISTATE` is Running exactly while INIT executes, and `VAR` is then its operand
(R22, R23). -/
def State.reported (s : State) : Bool :=
  (!s.ok || s.err == .none) &&
  ((s.istate == .running) == (isInitLabel s.upc && s.upc != .i00)) &&
  (!(isInitLabel s.upc && s.upc != .i00) || s.var == s.argVal)

/-- The list being applied, and the index into it, at the labels of the two list loops (R171, R232). -/
def State.indexed (s : State) : Bool :=
  match s.upc with
  | .i44 => (bulkItems s.cfg s.var).isSome
  | .i45 => (bulkItems s.cfg s.var).any fun l => decide (s.idx ≤ l.length)
  | .i46 | .i47 => (bulkItems s.cfg s.var).any fun l => decide (s.idx < l.length)
  | .e1 => decide (s.idx ≤ 9)
  | .e2 | .e3 => decide (s.idx < 9)
  | _ => true

/-- The ranges of `ITER` and `N` at the labels of the streaming loop (R236, R239). -/
def State.counted (s : State) : Bool :=
  match s.upc with
  | .s1 => decide (s.iter.toNat ≤ 1225) && decide (s.n.toNat ≤ s.iter.toNat)
  | .s2 | .s3 | .s4 | .s5 | .s6 => decide (s.iter.toNat < 1225) && decide (s.n.toNat ≤ s.iter.toNat)
  | .s7 => decide (s.iter.toNat < 1225) && decide (s.n.toNat ≤ s.iter.toNat + 1)
  | .s8 => decide (s.iter.toNat = 1225) && decide (s.n.toNat ≤ 1225)
  | _ => true

/-- The ranges of `C1` and `C2` along the calibration block (R181). -/
def State.calibrated (s : State) : Bool :=
  match s.upc with
  | .i33 => decide (s.c1.toNat ≤ 255)
  | .i34 => decide (s.c1.toNat ≤ 255) && decide (s.c2.toNat ≤ 255)
  | .i35 => decide (14 ≤ s.c1.toNat) && decide (s.c1.toNat ≤ 266) && decide (s.c2.toNat ≤ 255)
  | .i36 => decide (14 ≤ s.c1.toNat) && decide (s.c1.toNat ≤ 63) && decide (s.c2.toNat ≤ 255)
  | .i37 | .i38 | .i39 | .i40 | .i41 | .i42 =>
    decide (14 ≤ s.c1.toNat) && decide (s.c1.toNat ≤ 63) && decide (s.c2.toNat ≤ 11475)
  | _ => true

/-- The frame buffer is in its canonical form, and `PIXCNT`, once a command has written it since reset, is a count of its
elements (R66, R239). Before that R42 leaves it unspecified, and nothing is said of it. -/
def State.stored (s : State) : Bool :=
  Memory.wf s.fb && (!s.written.pixcnt || decide (s.pixcnt.toNat ≤ 1225))

/-- The invariant. -/
structure State.Inv (s : State) : Prop where
  sequenced  : s.sequenced = true
  linked     : s.linked = true
  lined      : s.lined = true
  reported   : s.reported = true
  indexed    : s.indexed = true
  counted    : s.counted = true
  calibrated : s.calibrated = true
  stored     : s.stored = true

/-! ## Terms of the statements -/

/-- `k` steps, stopping at the first fault or refusal. How many steps a command or a transaction takes is the model's
(DESIGN CHOICE, log 1); the order of its events and its end state are the spec's. -/
def run : Nat → State → Out
  | 0, s => .next s
  | k + 1, s =>
    match step s with
    | .next t => run k t
    | .fault r => .fault r
    | .refused r => .refused r

/-- An idle engine with nothing on its link, the word `w` offered first and `rst` not asserted in any coming step: where
a command is accepted (R40). -/
structure State.Offers (s : State) (w : Cmd) : Prop where
  notBusy  : s.busy = false
  atIdle   : s.upc = .idle
  linkIdle : s.link = .idle
  rstQuiet : s.rstIn = []
  offered  : s.cmdIn.head? = some w

/-- A command is running at the label `l`, between two of its transactions, and `rst` is not asserted in any coming
step. -/
structure State.RunsAt (s : State) (l : Label) : Prop where
  isBusy   : s.busy = true
  atLabel  : s.upc = l
  linkIdle : s.link = .idle
  rstQuiet : s.rstIn = []
  ownLabel : ∃ i, decodeCommand s.latched = .ok i ∧ labelOf i l = true

/-- The first micro-step of the command an opcode selects (30_encoding.md R107 and the micro-step lists). -/
def firstLabel (op : Byte) : Option Label :=
  match op with
  | 0x01#8 => some .w0
  | 0x02#8 => some .q0
  | 0x03#8 => some .i00
  | 0x04#8 => some .m0
  | 0x05#8 => some .e0
  | 0x06#8 => some .s0
  | 0x07#8 => some .e0
  | 0x08#8 => some .l0
  | _ => none

/-- The sensor's `k`-th coming reply byte (00_scope.md R14): the environment's, or the free value of that transfer. -/
def State.replyAt (s : State) (k : Nat) : Byte :=
  match s.replies[k]? with
  | some v => v
  | none => Config.sensorReply (s.xfers + k)

/-- The sensor has answered `k` more transfers. -/
def State.answered (k : Nat) (s : State) : State := { s with replies := s.replies.drop k, xfers := s.xfers + k }

/-- `s` with the frame `f` on the link, none of its events emitted yet; nothing else changed. -/
def State.sending (f : Frame) (s : State) : State := { s with link := .carrying f 0 }

/-- At the label `l` the instruction performs `WR(reg, val)` and goes on to `next`: it answers a next state with the
write frame on the link, and once the transaction is over one at `next`. -/
def Writes (i : Instr) (l : Label) (reg val : Byte) (next : Label) : Prop :=
  ∀ s : State, s.upc = l →
    (s.link = .idle → exec i s = .next (s.sending (joinBytes (0x80#8 ||| reg) val))) ∧
    (s.link = .ended → exec i s = .next { s with link := .idle, upc := next })

/-- At the label `l` the instruction performs `RD(reg)`, stores the reply with `store` and goes on to `next`. -/
def Reads (i : Instr) (l : Label) (reg : Byte) (store : Byte → State → State) (next : Label) : Prop :=
  ∀ s : State, s.upc = l →
    (s.link = .idle → exec i s = .next (s.sending (joinBytes (reg &&& 0x7F#8) 0x00#8))) ∧
    (s.link = .ended → exec i s = .next { store s.rx s with link := .idle, upc := next })

/-- At the label `l` the instruction emits `DLY(us)` and goes on to `next`. -/
def Waits (i : Instr) (l : Label) (us : Nat) (next : Label) : Prop :=
  ∀ s : State, s.upc = l → exec i s = .next { s with trace := .dly us :: s.trace, upc := next }

/-- At the label `l` the instruction answers the next state `f s`. -/
def Computes (i : Instr) (l : Label) (f : State → State) : Prop :=
  ∀ s : State, s.upc = l → exec i s = .next (f s)

/-- `done`, field by field (60_exceptions.md R276). -/
def afterDone (s : State) : State := { s with err := .none, ok := true, busy := false, upc := .idle }

/-- `raise Failed(code)`, field by field (R275). -/
def afterRaise (code : ErrCode) (s : State) : State := { s with err := code, ok := false, busy := false, upc := .idle }

/-- The label of a polling read, and what reply repeats it (R277, 44_frame.md R231, R238). -/
def repolls (l : Label) (v : Byte) : Bool :=
  match l with
  | .eg2 | .cg2 => v.extractLsb' 6 2 == 0b11#2
  | .s2 => v.extractLsb' 6 2 == 0b00#2 || v.extractLsb' 6 2 == 0b11#2
  | _ => false

/-- One iteration of the streaming loop as the sensor answers it: the not-ready bytes read again, then either an upper
byte and the byte after it (a pixel) or a byte tagged `0b10` (a skip) (R236, R238). -/
inductive Iteration where
  | shown (again : List Byte) (a b : Byte)
  | skipped (again : List Byte) (a : Byte)
deriving DecidableEq, Repr

/-- The tags an iteration's bytes must have to be what it says it is. -/
def Iteration.tagged (it : Iteration) : Bool :=
  match it with
  | .shown again a _ => again.all (repolls .s2) && a.extractLsb' 6 2 == 0b01#2
  | .skipped again a => again.all (repolls .s2) && a.extractLsb' 6 2 == 0b10#2

/-- The results of an iteration's read transactions, in order (R236, R237). -/
def Iteration.results (it : Iteration) : List Byte :=
  match it with
  | .shown again a b => again ++ [a, b]
  | .skipped again a => again ++ [a]

/-- The pixel an iteration emits (R237). -/
def Iteration.pixel (it : Iteration) : Option Byte :=
  match it with
  | .shown _ a b => some (Machine.pixel a b)
  | .skipped _ _ => none

/-- The iteration ended on tag `0b10` (R239). -/
def Iteration.isSkipped (it : Iteration) : Bool :=
  match it with
  | .shown _ _ _ => false
  | .skipped _ _ => true

/-- The re-reads of an iteration (R239). -/
def Iteration.rereads (it : Iteration) : Nat :=
  match it with
  | .shown again _ _ => again.length
  | .skipped again _ => again.length

end Sys2Proof.Machine
end

