-- ==== Sys2Proof/Certificates/Slice0/Obligations.lean ====
section
/-! DEFINITION. The statements for the provers. Each docstring names the rules of spec/ it formalises. -/

open Sys2Proof Sys2Proof.Machine

/-! ## Encodings -/

/-- Decoding an instruction's canonical word gives the instruction back, for every well-formed instruction
(30_encoding.md R101, R102, R105 to R110, R115). -/
def Obligations.DecodeOfEncodeIsTheInstruction : Prop :=
  ∀ i : Instr, i.wellFormed = true → decode (encode i) = .ok i

/-- A decoded word is a well-formed instruction, and its canonical word differs from it in ignored bits only: it
decodes to the same instruction and has the same opcode (R107, R108). -/
def Obligations.DecodedWordsAreWellFormed : Prop :=
  ∀ (w : Cmd) (i : Instr), decodeCommand w = .ok i →
    i.wellFormed = true ∧ ∃ w' : Cmd, encode i = .command w' ∧ cmdOp w' = cmdOp w ∧ decodeCommand w' = .ok i

/-- Two command words that differ only in ignored bits are the same command; the ignored bits of each row are those of
Table 30-2 (R108, R103, R115). -/
def Obligations.IgnoredBitsHaveNoEffect : Prop :=
  ∀ (op reg val reg' val' : Byte),
    (op = 0x01#8 → reg.setWidth 7 = reg'.setWidth 7 →
      decodeCommand (cmdWord op reg val) = decodeCommand (cmdWord op reg' val)) ∧
    (op = 0x02#8 → reg.setWidth 7 = reg'.setWidth 7 →
      decodeCommand (cmdWord op reg val) = decodeCommand (cmdWord op reg' val')) ∧
    (op = 0x03#8 → decodeCommand (cmdWord op reg val) = decodeCommand (cmdWord op reg' val)) ∧
    (op = 0x04#8 ∨ op = 0x05#8 ∨ op = 0x06#8 ∨ op = 0x07#8 →
      decodeCommand (cmdWord op reg val) = decodeCommand (cmdWord op reg' val')) ∧
    (op = 0x08#8 → val.getLsbD 0 = val'.getLsbD 0 →
      decodeCommand (cmdWord op reg val) = decodeCommand (cmdWord op reg' val'))

/-- Words written out from the spec's encodings decode to the instructions they stand for (Table 30-2, Table 30-1; the
worked examples of R101, R102, R154, R155). -/
def Obligations.WordsOfTheSpecDecode : Prop :=
  decodeCommand 0x013A5A#24 = .ok (.regWrite 0x3A#8 0x5A#8) ∧
  decodeCommand 0x020000#24 = .ok (.regRead 0x00#8) ∧
  decodeCommand 0x03FF01#24 = .ok (.init 0x01#8) ∧
  decodeCommand 0x04ABCD#24 = .ok .readMotion ∧
  decodeCommand 0x070000#24 = .ok .frameRead ∧
  decodeCommand 0x0800FE#24 = .ok (.setLed false) ∧
  decodeFrame 0xBA5A#16 = .ok (.wframe 0x3A#7 0x5A#8) ∧
  decodeFrame 0x5F00#16 = .ok (.rframe 0x5F#7)

/-- The wire frames the engine forms from an 8-bit operand: the first byte is `0x80 | r` for a write and `r & 0x7F` for
a read, so bit 7 of the operand has no effect on the frame; bit 15 tells the format, bits 14:8 are the address, bits
7:0 the value or 0x00 (R101, R102, R103). -/
def Obligations.AddressByteIsAssembledFromTheOperand : Prop :=
  ∀ (r v : Byte),
    frameFirst (writeFrame r v) = 0x80#8 ||| r ∧ frameSecond (writeFrame r v) = v ∧
    frameFirst (readFrame r) = r &&& 0x7F#8 ∧ frameSecond (readFrame r) = 0x00#8 ∧
    writeFrame r v = writeFrame (r &&& 0x7F#8) v ∧ readFrame r = readFrame (r &&& 0x7F#8) ∧
    decodeFrame (writeFrame r v) = .ok (.wframe (r.setWidth 7) v) ∧
    decodeFrame (readFrame r) = .ok (.rframe (r.setWidth 7))

/-! ## What a step runs -/

/-- A step runs the decoded instruction: the frame on the link, else the latched command, else the word offered. Around
`exec`, a step drops one level of `rst` (`clock`) and, for a word offered, latches its bytes (`latch`) (00_scope.md R11,
10_state.md R21, R26, R40). -/
def Obligations.StepRunsTheDecodedInstruction : Prop :=
  ∀ (s : State) (i : Instr), s.rstNow = false →
    (∀ f k, s.link = .carrying f k → decodeFrame f = .ok i → step s = exec i s.clock) ∧
    ((∀ f k, s.link ≠ .carrying f k) → s.busy = true → decodeCommand s.latched = .ok i →
      step s = exec i s.clock) ∧
    (∀ w q, (∀ f k, s.link ≠ .carrying f k) → s.busy = false → s.cmdIn = w :: q → decodeCommand w = .ok i →
      step s = exec i (s.clock.latch w))

/-- The idle engine accepts the word offered: it latches the three bytes and, by the opcode alone, sets `BUSY` and
`UPC` to the first micro-step of the command; any other opcode ends at once with IllegalCommand (R107, R109). -/
def Obligations.AcceptedWordIsDispatchedOnItsOpcode : Prop :=
  ∀ (s : State) (w : Cmd), s.Offers w →
    step s = .next
      (match firstLabel (cmdOp w) with
       | some l =>
         { s with op := cmdOp w, argReg := cmdReg w, argVal := cmdVal w, cmdIn := s.cmdIn.tail,
                  busy := true, upc := l }
       | none =>
         { s with op := cmdOp w, argReg := cmdReg w, argVal := cmdVal w, cmdIn := s.cmdIn.tail,
                  err := .illegalCommand, ok := false, busy := false, upc := .idle })

/-- An illegal word, `op` = 0x00 or 0x09 to 0xFF: one step to `OK = 0`, `ERR = 3`, `BUSY = 0`, with no bus event, `ISTATE`
and every result register unchanged (60_exceptions.md R273, 30_encoding.md R109). -/
def Obligations.IllegalCommandEndsAtOnce : Prop :=
  ∀ (s : State) (w : Cmd), s.Offers w → (cmdOp w = 0x00#8 ∨ 9 ≤ (cmdOp w).toNat) →
    ∃ t, step s = .next t ∧ t.busy = false ∧ t.upc = .idle ∧ t.ok = false ∧ t.err.code = 3#3 ∧
      t.trace = s.trace ∧ t.istate = s.istate ∧ t.rdata = s.rdata ∧ t.dx = s.dx ∧ t.dy = s.dy ∧
      t.pixcnt = s.pixcnt ∧ t.fb = s.fb

/-- While `BUSY = 1` an offered word is not accepted and has no effect: a step does the same whatever is offered, and
leaves the offer standing (10_state.md R40). -/
def Obligations.OfferWhileBusyHasNoEffect : Prop :=
  ∀ (s : State) (q : List Cmd), s.busy = true →
    step { s with cmdIn := q } =
      match step s with
      | .next t => .next { t with cmdIn := q }
      | .fault r => .fault r
      | .refused r => .refused r

/-! ## Reset -/

/-- Right after reset the engine is idle with the values of 10_state.md R42, and no result register has a value the host
may read. (The bits the other registers hold are the model's choice, log 5; nothing is said of them.) -/
def Obligations.ResetStateIsIdle : Prop :=
  State.reset.busy = false ∧ State.reset.ok = false ∧ State.reset.err.code = 0#3 ∧ State.reset.istate.code = 0#2 ∧
  State.reset.upc = .idle ∧ State.reset.csl = .deasserted ∧ State.reset.session = false ∧
  State.reset.readRdata = none ∧ State.reset.readDx = none ∧ State.reset.readDy = none ∧
  State.reset.readPixcnt = none ∧ State.reset.trace = []

/-- Reset at any step, in the middle of a transaction too: the engine is idle with the values of R42; the running command
is abandoned with no result register written and none readable; the lines are forced, with no other bus event; the
frame buffer, the offers and the sensor are not touched (70_reset_and_hazards.md R300, R301, 60_exceptions.md R282).
Two clauses are the model's choice and no rule of the spec: that `RDATA`, `DX`, `DY` and `PIXCNT`, which R42 calls
unspecified, keep their bits (DESIGN CHOICE, log 6), and which events the lines record (DEDUCED, log 12). -/
def Obligations.ResetAbandonsTheCommand : Prop :=
  ∀ s : State, s.rstNow = true →
    ∃ t, step s = .next t ∧
      t.busy = false ∧ t.ok = false ∧ t.err = .none ∧ t.istate = .uninit ∧ t.upc = .idle ∧
      t.csl = .deasserted ∧ t.session = false ∧ t.link = .idle ∧
      t.readRdata = none ∧ t.readDx = none ∧ t.readDy = none ∧ t.readPixcnt = none ∧
      t.rdata = s.rdata ∧ t.dx = s.dx ∧ t.dy = s.dy ∧ t.pixcnt = s.pixcnt ∧
      t.fb = s.fb ∧ t.cmdIn = s.cmdIn ∧ t.replies = s.replies ∧ t.xfers = s.xfers ∧ t.cfg = s.cfg ∧
      t.trace = (if s.session then [Event.rel] else []) ++ (if s.csl = .asserted then [Event.csd] else []) ++ s.trace

/-! ## Transactions -/

/-- WFRAME carries `TXW(0x80 | reg, val)`: from an idle link or from its first event, ten steps of `exec` emit the ten
events of R136 in order and end with chip-select deasserted, the session closed and the transaction over. Each event is
one next state: event number `k` for `k` = 0 to 9. -/
def Obligations.WriteTransactionEvents : Prop :=
  ∀ (reg : RegAddr) (val : Byte) (s : State) (k : Nat) (e : Event),
    s.link = .carrying (wframeBits reg val) k ∨ (s.link = .idle ∧ k = 0) →
    (txwEvents (0x80#8 ||| reg.setWidth 8) val s.sensorByte s.sensorByte)[k]? = some e →
    ∃ t, exec (.wframe reg val) s = .next t ∧ t.trace = e :: s.trace ∧
      t.csl = (match e with | .csa => .asserted | .csd => .deasserted | _ => s.csl) ∧
      t.session = (match e with | .acq => true | .rel => false | _ => s.session) ∧
      t.rx = s.rx ∧
      (k < 9 → t.link = .carrying (wframeBits reg val) (k + 1)) ∧
      (k = 9 → t.link = if s.busy then .ended else .idle)

/-- RFRAME carries `TXR(reg)`: the nine events of R137 in order, one next state each; the reply of the second transfer
is the result, kept in the model's `rx`, and the reply of the first is discarded. -/
def Obligations.ReadTransactionEvents : Prop :=
  ∀ (reg : RegAddr) (s : State) (k : Nat) (e : Event),
    s.link = .carrying (rframeBits reg) k ∨ (s.link = .idle ∧ k = 0) →
    (txrEvents (reg.setWidth 8) s.sensorByte s.sensorByte)[k]? = some e →
    ∃ t, exec (.rframe reg) s = .next t ∧ t.trace = e :: s.trace ∧
      t.csl = (match e with | .csa => .asserted | .csd => .deasserted | _ => s.csl) ∧
      t.session = (match e with | .acq => true | .rel => false | _ => s.session) ∧
      t.rx = (if k = 5 then s.sensorByte else s.rx) ∧
      (k < 8 → t.link = .carrying (rframeBits reg) (k + 1)) ∧
      (k = 8 → t.link = if s.busy then .ended else .idle)

/-- A whole write transaction of a running micro-step: ten steps, exactly the ten events of R136, `SESSION` and `CSL` back
at their idle values, two transfers answered, and nothing else changed. -/
def Obligations.WriteTransactionRun : Prop :=
  ∀ (r v : Byte) (s : State), s.link = .carrying (writeFrame r v) 0 → s.rstIn = [] →
    run 10 s = .next { s.answered 2 with
      csl := .deasserted, session := false, link := if s.busy then .ended else .idle,
      trace := (txwEvents (0x80#8 ||| r) v (s.replyAt 0) (s.replyAt 1)).reverse ++ s.trace }

/-- A whole read transaction of a running micro-step: nine steps, exactly the nine events of R137, the reply of the second
transfer as its result, and nothing else changed. -/
def Obligations.ReadTransactionRun : Prop :=
  ∀ (r : Byte) (s : State), s.link = .carrying (readFrame r) 0 → s.rstIn = [] →
    run 9 s = .next { s.answered 2 with
      csl := .deasserted, session := false, link := if s.busy then .ended else .idle, rx := s.replyAt 1,
      trace := (txrEvents (r &&& 0x7F#8) (s.replyAt 0) (s.replyAt 1)).reverse ++ s.trace }

/-! ## REG_WRITE and REG_READ -/

/-- REG_WRITE's micro-steps, W0 to `done` (41_register_access.md R154). -/
def Obligations.RegWriteMicroSteps : Prop :=
  ∀ reg val : Byte,
    Computes (.regWrite reg val) .idle (fun s => { s with busy := true, upc := .w0 }) ∧
    Writes (.regWrite reg val) .w0 reg val .w1 ∧
    Computes (.regWrite reg val) .w1 afterDone

/-- REG_READ's micro-steps, Q0 to `done` (R155). -/
def Obligations.RegReadMicroSteps : Prop :=
  ∀ reg : Byte,
    Computes (.regRead reg) .idle (fun s => { s with busy := true, upc := .q0 }) ∧
    Reads (.regRead reg) .q0 reg
      (fun v s => { s with rdata := v, written := { s.written with rdata := true } }) .q1 ∧
    Computes (.regRead reg) .q1 afterDone

/-- A whole REG_WRITE from an idle engine: the ten events of one write transaction, `OK = 1`, `ERR = 0`, and no result
register written (R154). -/
def Obligations.RegWriteRun : Prop :=
  ∀ (s : State) (w : Cmd), s.Offers w → cmdOp w = 0x01#8 →
    run 14 s = .next { s.answered 2 with
      op := cmdOp w, argReg := cmdReg w, argVal := cmdVal w, cmdIn := s.cmdIn.tail,
      ok := true, err := .none, csl := .deasserted, session := false,
      trace := (txwEvents (0x80#8 ||| cmdReg w) (cmdVal w) (s.replyAt 0) (s.replyAt 1)).reverse ++ s.trace }

/-- A whole REG_READ from an idle engine: the nine events of one read transaction, `RDATA` the reply of the second
transfer and readable by the host, `OK = 1`, `ERR = 0` (R155, R151). -/
def Obligations.RegReadRun : Prop :=
  ∀ (s : State) (w : Cmd), s.Offers w → cmdOp w = 0x02#8 →
    ∃ t, run 13 s = .next t ∧ t.readRdata = some (s.replyAt 1) ∧
      t = { s.answered 2 with
        op := cmdOp w, argReg := cmdReg w, argVal := cmdVal w, cmdIn := s.cmdIn.tail,
        ok := true, err := .none, csl := .deasserted, session := false,
        rx := s.replyAt 1, rdata := s.replyAt 1, written := { s.written with rdata := true },
        trace := (txrEvents (cmdReg w &&& 0x7F#8) (s.replyAt 0) (s.replyAt 1)).reverse ++ s.trace }

/-! ## INIT -/

/-- INIT's entry, reset pulse and power-on command, I00 to I08 (42_init.md R171, R172, R173). -/
def Obligations.InitResetsTheSensor : Prop :=
  ∀ v : Byte,
    Computes (.init v) .idle (fun s => { s with busy := true, upc := .i00 }) ∧
    Computes (.init v) .i00 (fun s => { s with var := v, istate := .running, upc := .i01 }) ∧
    Computes (.init v) .i01 (fun s => { s with csl := .asserted, trace := .csa :: s.trace, upc := .i02 }) ∧
    Waits (.init v) .i02 1000 .i03 ∧
    Computes (.init v) .i03 (fun s => { s with csl := .deasserted, trace := .csd :: s.trace, upc := .i04 }) ∧
    Waits (.init v) .i04 1000 .i05 ∧
    Computes (.init v) .i05 (fun s => { s with csl := .asserted, trace := .csa :: s.trace, upc := .i06 }) ∧
    Waits (.init v) .i06 1000 .i07 ∧
    Writes (.init v) .i07 0x3A#8 0x5A#8 .i08 ∧
    Waits (.init v) .i08 5000 .i09

/-- INIT's identity probe and priming reads: both identity reads, 0x00 then 0x5F, then Failed exactly where BOTH replies
mismatch (R174, R271); then 0x02 to 0x06 once each, in order, and 1 ms, no reply tested (R175). -/
def Obligations.InitProbesIdentityAndPrimes : Prop :=
  ∀ v : Byte,
    Reads (.init v) .i09 0x00#8 (fun r s => { s with id0 := r }) .i10 ∧
    Reads (.init v) .i10 0x5F#8 (fun r s => { s with id1 := r }) .i11 ∧
    Computes (.init v) .i11 (fun s =>
      if s.id0 ≠ 0x49#8 ∧ s.id1 ≠ 0xB8#8 then { afterRaise .identityMismatch s with istate := .failed }
      else { s with upc := .i12 }) ∧
    Reads (.init v) .i12 0x02#8 (fun r s => { s with t := r }) .i13 ∧
    Reads (.init v) .i13 0x03#8 (fun r s => { s with t := r }) .i14 ∧
    Reads (.init v) .i14 0x04#8 (fun r s => { s with t := r }) .i15 ∧
    Reads (.init v) .i15 0x05#8 (fun r s => { s with t := r }) .i16 ∧
    Reads (.init v) .i16 0x06#8 (fun r s => { s with t := r }) .i17 ∧
    Waits (.init v) .i17 1000 .i18

/-- INIT's tuning sequence up to the second branch: every write with its literal address and value, in order, the write
to 0x48 selected by bit 7 of the reply of 0x67, and the calibration block entered exactly where the reply of 0x73 is
0x00 (R176, R177, R178, R179). -/
def Obligations.InitTunes : Prop :=
  ∀ v : Byte,
    Writes (.init v) .i18 0x7F#8 0x00#8 .i19 ∧ Writes (.init v) .i19 0x55#8 0x01#8 .i20 ∧
    Writes (.init v) .i20 0x50#8 0x07#8 .i21 ∧ Writes (.init v) .i21 0x7F#8 0x0E#8 .i22 ∧
    Writes (.init v) .i22 0x43#8 0x10#8 .i23 ∧
    Reads (.init v) .i23 0x67#8 (fun r s => { s with t := r }) .i24 ∧
    (∀ s : State, s.upc = .i24 → s.link = .idle →
      exec (.init v) s = .next (s.sending (if s.t.toNat < 128 then 0xC802#16 else 0xC804#16))) ∧
    (∀ s : State, s.upc = .i24 → s.link = .ended → exec (.init v) s = .next { s with link := .idle, upc := .i25 }) ∧
    Writes (.init v) .i25 0x7F#8 0x00#8 .i26 ∧ Writes (.init v) .i26 0x51#8 0x7B#8 .i27 ∧
    Writes (.init v) .i27 0x50#8 0x00#8 .i28 ∧ Writes (.init v) .i28 0x55#8 0x00#8 .i29 ∧
    Writes (.init v) .i29 0x7F#8 0x0E#8 .i30 ∧
    Reads (.init v) .i30 0x73#8 (fun r s => { s with t := r }) .i31 ∧
    Computes (.init v) .i31 (fun s => { s with upc := if s.t = 0x00#8 then .i32 else .i43 })

/-- INIT's calibration block: the two reads zero-extended, the arithmetic one register at a time, the six writes, the last
two carrying the low 8 bits of `C1` and `C2` (R180, R181, R182, R114). -/
def Obligations.InitCalibrates : Prop :=
  ∀ v : Byte,
    Reads (.init v) .i32 0x70#8 (fun r s => { s with c1 := r.setWidth 9 }) .i33 ∧
    Reads (.init v) .i33 0x71#8 (fun r s => { s with c2 := r.setWidth 14 }) .i34 ∧
    Computes (.init v) .i34 (fun s =>
      { s with c1 := if s.c1.toNat ≤ 28 then s.c1 + 14#9 else s.c1 + 11#9, upc := .i35 }) ∧
    Computes (.init v) .i35 (fun s => { s with c1 := if s.c1.toNat ≤ 63 then s.c1 else 63#9, upc := .i36 }) ∧
    Computes (.init v) .i36 (fun s => { s with c2 := s.c2 * 45#14, upc := .i37 }) ∧
    Writes (.init v) .i37 0x7F#8 0x00#8 .i38 ∧ Writes (.init v) .i38 0x61#8 0xAD#8 .i39 ∧
    Writes (.init v) .i39 0x51#8 0x70#8 .i40 ∧ Writes (.init v) .i40 0x7F#8 0x0E#8 .i41 ∧
    (∀ s : State, s.upc = .i41 → s.link = .idle →
      exec (.init v) s = .next (s.sending (joinBytes 0xF0#8 (s.c1.setWidth 8)))) ∧
    (∀ s : State, s.upc = .i41 → s.link = .ended → exec (.init v) s = .next { s with link := .idle, upc := .i42 }) ∧
    (∀ s : State, s.upc = .i42 → s.link = .idle →
      exec (.init v) s = .next (s.sending (joinBytes 0xF1#8 (s.c2.setWidth 8)))) ∧
    (∀ s : State, s.upc = .i42 → s.link = .ended → exec (.init v) s = .next { s with link := .idle, upc := .i43 })

/-- The calibration as a function of the replies `r1` of 0x70 and `r2` of 0x71, exact and without wrapping: 0 to 28 give
`r1 + 14`, 29 to 52 give `r1 + 11`, 53 to 255 give 63; `C2` is `r2 * 45`, and the byte written is that modulo 256
(R181, R182, R114). -/
def Obligations.CalibrationValues : Prop :=
  ∀ r1 r2 : Byte,
    (c1Clamp (c1Adjust (r1.setWidth 9))).toNat =
      (if r1.toNat ≤ 28 then r1.toNat + 14 else if r1.toNat ≤ 52 then r1.toNat + 11 else 63) ∧
    (narrow (c1Clamp (c1Adjust (r1.setWidth 9)))).toNat = (c1Clamp (c1Adjust (r1.setWidth 9))).toNat ∧
    (c2Scale (r2.setWidth 14)).toNat = r2.toNat * 45 ∧
    (narrow (c2Scale (r2.setWidth 14))).toNat = r2.toNat * 45 % 256

/-- INIT's bulk load: an unsupported variant is Failed before any transaction of step 6; else the items of the variant's
list are applied in order, a write as one `WR`, the pause as one `DLY(100000)` (R184, R185, R272). -/
def Obligations.InitLoadsTheVariantList : Prop :=
  ∀ (v : Byte) (s : State) (list : List SeqItem),
    (s.upc = .i43 → exec (.init v) s = .next
      (if s.var = 0x00#8 ∨ s.var = 0x01#8 then { s with upc := .i44 }
       else { afterRaise .unsupportedVariant s with istate := .failed })) ∧
    (s.upc = .i44 → exec (.init v) s = .next { s with idx := 0, upc := .i45 }) ∧
    ((s.var = 0x00#8 ∧ list = s.cfg.bulkA.items) ∨ (s.var = 0x01#8 ∧ list = s.cfg.bulkB.items) →
      (s.upc = .i45 → exec (.init v) s = .next { s with upc := if s.idx = list.length then .i48 else .i46 }) ∧
      (∀ (reg : RegAddr) (val : Byte), s.upc = .i46 → list[s.idx]? = some (.write { reg := reg, val := val }) →
        (s.link = .idle →
          exec (.init v) s = .next (s.sending (wframeBits reg val))) ∧
        (s.link = .ended → exec (.init v) s = .next { s with link := .idle, upc := .i47 })) ∧
      (s.upc = .i46 → list[s.idx]? = some .pause →
        exec (.init v) s = .next { s with trace := .dly 100000 :: s.trace, upc := .i47 })) ∧
    (s.upc = .i47 → exec (.init v) s = .next { s with idx := s.idx + 1, upc := .i45 })

/-- INIT's final verification and its Ready end: both reads, 0x00 then 0x01, Failed where EITHER mismatches, else
`ISTATE = Ready`, `OK = 1`, `ERR = 0` (R186, R170, R271). -/
def Obligations.InitVerifiesAndEnds : Prop :=
  ∀ v : Byte,
    Reads (.init v) .i48 0x00#8 (fun r s => { s with id0 := r }) .i49 ∧
    Reads (.init v) .i49 0x01#8 (fun r s => { s with id1 := r }) .i50 ∧
    Computes (.init v) .i50 (fun s =>
      if s.id0 = 0x49#8 ∧ s.id1 = 0x00#8 then { s with upc := .i51 }
      else { afterRaise .identityMismatch s with istate := .failed }) ∧
    Computes (.init v) .i51 (fun s => { afterDone s with istate := .ready })

/-- A whole INIT whose probe mismatches twice: 35 bus events, the last the `REL` of the read of 0x5F, `ISTATE` Failed,
`OK = 0`, `ERR = 1`, and no result register written (R172, R173, R174, R187). That it takes 44 steps is the model's
choice (DESIGN CHOICE, log 1). -/
def Obligations.InitFailsAtTheProbe : Prop :=
  ∀ (s : State) (w : Cmd), s.Offers w → cmdOp w = 0x03#8 → s.replyAt 3 ≠ 0x49#8 → s.replyAt 5 ≠ 0xB8#8 →
    run 44 s = .next { s.answered 6 with
      op := cmdOp w, argReg := cmdReg w, argVal := cmdVal w, cmdIn := s.cmdIn.tail,
      var := cmdVal w, id0 := s.replyAt 3, id1 := s.replyAt 5, rx := s.replyAt 5,
      istate := .failed, ok := false, err := .identityMismatch, csl := .deasserted, session := false,
      trace := ([Event.csa, .dly 1000, .csd, .dly 1000, .csa, .dly 1000]
        ++ txwEvents 0xBA#8 0x5A#8 (s.replyAt 0) (s.replyAt 1) ++ [Event.dly 5000]
        ++ txrEvents 0x00#8 (s.replyAt 2) (s.replyAt 3) ++ txrEvents 0x5F#8 (s.replyAt 4) (s.replyAt 5)).reverse
        ++ s.trace }

/-- INIT cannot hang: from any idle engine and for every reply sequence its run ends, Ready with `OK = 1` or Failed with
one of its two errors, with chip-select deasserted, no session open and the results untouched (R170, R187, R188). -/
def Obligations.InitAlwaysEnds : Prop :=
  ∀ (s : State) (w : Cmd), s.Offers w → cmdOp w = 0x03#8 →
    ∃ (n : Nat) (t : State), run n s = .next t ∧ 1 ≤ n ∧ t.busy = false ∧ t.upc = .idle ∧ t.link = .idle ∧
      t.csl = .deasserted ∧ t.session = false ∧
      t.rdata = s.rdata ∧ t.dx = s.dx ∧ t.dy = s.dy ∧ t.pixcnt = s.pixcnt ∧ t.fb = s.fb ∧
      ((t.istate = .ready ∧ t.ok = true ∧ t.err = .none) ∨
       (t.istate = .failed ∧ t.ok = false ∧ (t.err = .identityMismatch ∨ t.err = .unsupportedVariant)))

/-! ## READ_MOTION -/

/-- READ_MOTION's micro-steps: five reads in ascending order, the first discarded into `T`, one byte of the deltas each
(43_motion.md R220). -/
def Obligations.ReadMotionMicroSteps : Prop :=
  Computes .readMotion .idle (fun s => { s with busy := true, upc := .m0 }) ∧
  Reads .readMotion .m0 0x02#8 (fun r s => { s with t := r }) .m1 ∧
  Reads .readMotion .m1 0x03#8 (fun r s => { s with dx := joinBytes (s.dx.extractLsb' 8 8) r }) .m2 ∧
  Reads .readMotion .m2 0x04#8 (fun r s => { s with dx := joinBytes r (s.dx.extractLsb' 0 8) }) .m3 ∧
  Reads .readMotion .m3 0x05#8 (fun r s => { s with dy := joinBytes (s.dy.extractLsb' 8 8) r }) .m4 ∧
  Reads .readMotion .m4 0x06#8 (fun r s =>
    { s with dy := joinBytes r (s.dy.extractLsb' 0 8), written := { s.written with motion := true } }) .m5 ∧
  Computes .readMotion .m5 afterDone

/-- A whole READ_MOTION from an idle engine in any `ISTATE`: five read transactions and no write, `DX = {x_hi, x_lo}` and
`DY = {y_hi, y_lo}`, nothing accumulated, `OK = 1`, `ERR = 0` (R220, R221, R113). -/
def Obligations.ReadMotionRun : Prop :=
  ∀ (s : State) (w : Cmd), s.Offers w → cmdOp w = 0x04#8 →
    run 57 s = .next { s.answered 10 with
      op := cmdOp w, argReg := cmdReg w, argVal := cmdVal w, cmdIn := s.cmdIn.tail,
      ok := true, err := .none, csl := .deasserted, session := false,
      t := s.replyAt 1, rx := s.replyAt 9,
      dx := joinBytes (s.replyAt 5) (s.replyAt 3), dy := joinBytes (s.replyAt 9) (s.replyAt 7),
      written := { s.written with motion := true },
      trace := (txrEvents 0x02#8 (s.replyAt 0) (s.replyAt 1) ++ txrEvents 0x03#8 (s.replyAt 2) (s.replyAt 3)
        ++ txrEvents 0x04#8 (s.replyAt 4) (s.replyAt 5) ++ txrEvents 0x05#8 (s.replyAt 6) (s.replyAt 7)
        ++ txrEvents 0x06#8 (s.replyAt 8) (s.replyAt 9)).reverse ++ s.trace }

/-- A delta is the two's-complement reading of its 16-bit pattern: the high byte's sign with the low byte below, in -32768
to 32767 (R221, R222, R113). -/
def Obligations.DeltasAreTwosComplement : Prop :=
  ∀ hi lo : Byte,
    signed16 (joinBytes hi lo) = hi.toInt * 256 + (lo.toNat : Int) ∧
    -32768 ≤ signed16 (joinBytes hi lo) ∧ signed16 (joinBytes hi lo) ≤ 32767

/-! ## The frame commands -/

/-- The enable phase, E0 to E5 with the ready gate, for the two commands that have it: the nine writes of
`FRAME_ENABLE_SEQ` in order, `WR(0x70, 0x00)`, `WR(0x58, 0xFF)`, the poll of 0x58 while the top two bits are both set,
`DLY(50)`, and at E5 the end of FRAME_ENABLE or the way to S0 (44_frame.md R231, R232). -/
def Obligations.EnablePhaseMicroSteps : Prop :=
  ∀ i : Instr, i = .frameEnable ∨ i = .frameRead →
    Computes i .idle (fun s => { s with busy := true, upc := .e0 }) ∧
    Computes i .e0 (fun s => { s with idx := 0, upc := .e1 }) ∧
    Computes i .e1 (fun s => { s with upc := if s.idx = 9 then .eg0 else .e2 }) ∧
    (∀ (s : State) (k : Fin 9), s.upc = .e2 → s.idx = k →
      (s.link = .idle → exec i s = .next
        (s.sending (wframeBits (s.cfg.frameEnableSeq[k]).reg (s.cfg.frameEnableSeq[k]).val))) ∧
      (s.link = .ended → exec i s = .next { s with link := .idle, upc := .e3 })) ∧
    Computes i .e3 (fun s => { s with idx := s.idx + 1, upc := .e1 }) ∧
    Writes i .eg0 0x70#8 0x00#8 .eg1 ∧
    (∀ s : State, s.upc = .eg1 →
      (s.link = .idle → exec i s = .next (State.sending 0xD8FF#16 { s with polls := 0 })) ∧
      (s.link = .ended → exec i s = .next { s with polls := 0, link := .idle, upc := .eg2 })) ∧
    Reads i .eg2 0x58#8 (fun r s => { s with t := r, polls := s.polls + 1 }) .eg3 ∧
    (∀ s : State, s.upc = .eg3 → s.t.toNat < 0xC0 → exec i s = .next { s with upc := .e4 }) ∧
    (∀ s : State, s.upc = .eg3 → 0xC0 ≤ s.t.toNat → s.cfg.pollLimit = none →
      exec i s = .next { s with upc := .eg2 }) ∧
    Waits i .e4 50 .e5 ∧
    (∀ s : State, s.upc = .e5 → s.op = 0x05#8 → exec i s = .next (afterDone s)) ∧
    (∀ s : State, s.upc = .e5 → s.op ≠ 0x05#8 → exec i s = .next { s with upc := .s0 })

/-- The streaming phase, S0 to S8, for the two commands that have it (R236, R237, R238): the loop counts 1225 iterations;
`0b01` reads the second byte and stores a pixel, `0b00` and `0b11` read again, `0b10` skips. -/
def Obligations.StreamPhaseMicroSteps : Prop :=
  ∀ i : Instr, i = .frameStream ∨ i = .frameRead →
    Computes i .s0 (fun s => { s with iter := 0#11, n := 0#11, upc := .s1 }) ∧
    (∀ s : State, s.upc = .s1 → s.iter = 1225#11 → exec i s = .next { s with upc := .s8 }) ∧
    (∀ s : State, s.upc = .s1 → s.iter ≠ 1225#11 → exec i s = .next { s with polls := 0, upc := .s2 }) ∧
    Reads i .s2 0x58#8 (fun r s => { s with a := r, polls := s.polls + 1 }) .s3 ∧
    (∀ s : State, s.upc = .s3 → s.a.extractLsb' 6 2 = 0b01#2 → exec i s = .next { s with upc := .s4 }) ∧
    (∀ s : State, s.upc = .s3 → s.a.extractLsb' 6 2 = 0b10#2 → exec i s = .next { s with upc := .s7 }) ∧
    (∀ s : State, s.upc = .s3 → s.a.extractLsb' 6 2 = 0b00#2 ∨ s.a.extractLsb' 6 2 = 0b11#2 →
      s.cfg.pollLimit = none → exec i s = .next { s with upc := .s2 }) ∧
    Reads i .s4 0x58#8 (fun r s => { s with b := r }) .s5 ∧
    (∀ s : State, s.upc = .s5 → s.n.toNat < 1225 → exec i s = .next
      { s with fb := Memory.write s.fb s.n.toNat (((s.a <<< 2) &&& 0xFC#8) ||| (s.b &&& 0x03#8)),
               trace := .fbw s.n.toNat (((s.a <<< 2) &&& 0xFC#8) ||| (s.b &&& 0x03#8)) :: s.trace,
               upc := .s6 }) ∧
    Computes i .s6 (fun s => { s with n := s.n + 1#11, upc := .s7 }) ∧
    Computes i .s7 (fun s => { s with iter := s.iter + 1#11, upc := .s1 }) ∧
    Computes i .s8 (fun s =>
      { s with pixcnt := s.n, written := { s.written with pixcnt := true }, upc := .cg0 })

/-- The completion phase, CG0 to C4, and the entry of FRAME_STREAM: the same ready gate, no settle wait, then `done`
(R240, R231). -/
def Obligations.CompletionPhaseMicroSteps : Prop :=
  Computes .frameStream .idle (fun s => { s with busy := true, upc := .s0 }) ∧
  ∀ i : Instr, i = .frameStream ∨ i = .frameRead →
    Writes i .cg0 0x70#8 0x00#8 .cg1 ∧
    (∀ s : State, s.upc = .cg1 →
      (s.link = .idle → exec i s = .next (State.sending 0xD8FF#16 { s with polls := 0 })) ∧
      (s.link = .ended → exec i s = .next { s with polls := 0, link := .idle, upc := .cg2 })) ∧
    Reads i .cg2 0x58#8 (fun r s => { s with t := r, polls := s.polls + 1 }) .cg3 ∧
    (∀ s : State, s.upc = .cg3 → s.t.toNat < 0xC0 → exec i s = .next { s with upc := .c4 }) ∧
    (∀ s : State, s.upc = .cg3 → 0xC0 ≤ s.t.toNat → s.cfg.pollLimit = none →
      exec i s = .next { s with upc := .cg2 }) ∧
    Computes i .c4 afterDone

/-- `pixel = ((a << 2) & 0xFC) | (b & 0x03)`: `pixel[7:2] = a[5:0]` and `pixel[1:0] = b[1:0]`, so neither the tag bits of
`a` nor bits 7:2 of `b` count; the tag of a byte is its value divided by 64 (R112, R111). -/
def Obligations.PixelBits : Prop :=
  ∀ a b : Byte,
    pixel a b = ((a <<< 2) &&& 0xFC#8) ||| (b &&& 0x03#8) ∧
    (pixel a b).extractLsb' 2 6 = a.extractLsb' 0 6 ∧ (pixel a b).extractLsb' 0 2 = b.extractLsb' 0 2 ∧
    (pixel a b).toNat = a.toNat % 64 * 4 + b.toNat % 4 ∧ (tagOf a).toNat = a.toNat / 64

/-- The micro-step that stores a pixel writes one element of the frame buffer, `N`, and emits one `FBW`; every other
element reads as before (R237, 20_memory.md R66). -/
def Obligations.PixelStoreWritesElementN : Prop :=
  ∀ (i : Instr) (s : State), i = .frameStream ∨ i = .frameRead → s.upc = .s5 → s.n.toNat < 1225 →
    ∃ t, exec i s = .next t ∧ Memory.read t.fb s.n.toNat = some (pixel s.a s.b) ∧
      (∀ j, j ≠ s.n.toNat → Memory.read t.fb j = Memory.read s.fb j) ∧
      t.trace = .fbw s.n.toNat (pixel s.a s.b) :: s.trace

/-- FRAME_READ is FRAME_ENABLE followed by FRAME_STREAM: on the labels of the enable phase it does what FRAME_ENABLE does,
on those of the other two what FRAME_STREAM does; only `OP` at E5 tells them apart (R241, R232). -/
def Obligations.FrameReadIsEnableThenStream : Prop :=
  ∀ s : State,
    (framePhase s.upc = .enable → exec .frameRead s = exec .frameEnable s) ∧
    (framePhase s.upc = .stream ∨ framePhase s.upc = .completion → exec .frameRead s = exec .frameStream s) ∧
    (s.upc = .e5 → s.op = 0x07#8 → exec .frameRead s = .next { s with upc := .s0 }) ∧
    (s.upc = .e5 → s.op = 0x05#8 → exec .frameEnable s = .next (afterDone s))

/-- The whole streaming phase, for every sequence of 1225 iterations the sensor can answer, whatever the discarded reply of
each transaction and whatever comes after, with `k` skips and `r` re-reads: it ends with `ITER = 1225` and `N = PIXCNT = 1225 - k`, elements 0 to `1224 - k` hold the pixels in the order
emitted, the others what they held before, after `2 * (1225 - k) + k + r` read transactions of two transfers each
(R239, R236). -/
def Obligations.StreamingPhaseStoresThePixels : Prop :=
  ∀ (its : List Iteration) (s : State),
    its.length = 1225 → (∀ it ∈ its, it.tagged = true) → s.RunsAt .s0 → s.cfg.pollLimit = none →
    (∀ (j : Nat) (v : Byte), (its.flatMap Iteration.results)[j]? = some v → s.replyAt (2 * j + 1) = v) →
    ∃ (n : Nat) (t : State), run n s = .next t ∧ t.upc = .cg0 ∧ t.iter = 1225#11 ∧
      t.n.toNat = 1225 - its.countP Iteration.isSkipped ∧ t.pixcnt = t.n ∧
      (∀ (j : Nat) (v : Byte), (its.filterMap Iteration.pixel)[j]? = some v → Memory.read t.fb j = some v) ∧
      (its.filterMap Iteration.pixel).length = 1225 - its.countP Iteration.isSkipped ∧
      (∀ j : Nat, 1225 - its.countP Iteration.isSkipped ≤ j → Memory.read t.fb j = Memory.read s.fb j) ∧
      t.xfers = s.xfers + 2 * (2 * (1225 - its.countP Iteration.isSkipped) + its.countP Iteration.isSkipped
        + (its.map Iteration.rereads).sum)

/-- The polling loops have no bound of their own: with `POLL_LIMIT` unbounded, as long as the replies do not let it exit
each of the three loops comes round again, `BUSY` stays 1, and one read transaction (two transfers) is made a pass, for
any number of passes, the frame buffer and the loop counters as they were (60_exceptions.md R277, 44_frame.md R242).
That a pass takes 12 steps is the model's choice (DESIGN CHOICE, log 1). -/
def Obligations.PollingLoopsAreUnbounded : Prop :=
  ∀ (k : Nat) (l : Label) (s : State), l = .eg2 ∨ l = .cg2 ∨ l = .s2 → s.RunsAt l → s.cfg.pollLimit = none →
    (∀ j, j < k → repolls l (s.replyAt (2 * j + 1)) = true) →
    ∃ t, run (12 * k) s = .next t ∧ t.RunsAt l ∧ t.busy = true ∧ t.xfers = s.xfers + 2 * k ∧ t.fb = s.fb ∧
      t.iter = s.iter ∧ t.n = s.n

/-- The optional bound: with `POLL_LIMIT = some L`, a loop entered with its count at 0 whose `L` replies all repeat it ends
the command after exactly `L` reads with `ERR = 4`, `OK = 0`, `PIXCNT` and the frame buffer as they were when the loop
was entered (R279). The number of steps is the model's choice (DESIGN CHOICE, log 1), and so is that `PIXCNT` in the
completion loop is what S8 has written in this command (DESIGN CHOICE, log 24). -/
def Obligations.FinitePollLimitEndsTheCommand : Prop :=
  ∀ (k : Nat) (l : Label) (s : State), l = .eg2 ∨ l = .cg2 ∨ l = .s2 → s.RunsAt l → s.polls = 0 →
    s.cfg.pollLimit = some (k + 1) → (∀ j, j < k + 1 → repolls l (s.replyAt (2 * j + 1)) = true) →
    ∃ t, run (12 * (k + 1)) s = .next t ∧ t.busy = false ∧ t.upc = .idle ∧ t.ok = false ∧ t.err = .pollLimit ∧
      t.xfers = s.xfers + 2 * (k + 1) ∧ t.pixcnt = s.pixcnt ∧ t.fb = s.fb

/-! ## SET_LED -/

/-- SET_LED's micro-steps: the wait first, then three writes (45_led.md R260). -/
def Obligations.SetLedMicroSteps : Prop :=
  ∀ on : Bool,
    Computes (.setLed on) .idle (fun s => { s with busy := true, upc := .l0 }) ∧
    Waits (.setLed on) .l0 200000 .l1 ∧
    Writes (.setLed on) .l1 0x7F#8 0x14#8 .l2 ∧
    Writes (.setLed on) .l2 0x6F#8 (if on then 0x1C#8 else 0x00#8) .l3 ∧
    Writes (.setLed on) .l3 0x7F#8 0x00#8 .l4 ∧
    Computes (.setLed on) .l4 afterDone

/-- A whole SET_LED from an idle engine: `DLY(200000)`, then the three write transactions, 31 events in all, the middle
byte 0x1C where `val[0] = 1` and 0x00 where it is 0; no LED state is kept: beside the latched word, the status, the
lines and the sensor's inputs nothing changes (R260, R261, R262). -/
def Obligations.SetLedRun : Prop :=
  ∀ (s : State) (w : Cmd), s.Offers w → cmdOp w = 0x08#8 →
    run 39 s = .next { s.answered 6 with
      op := cmdOp w, argReg := cmdReg w, argVal := cmdVal w, cmdIn := s.cmdIn.tail,
      ok := true, err := .none, csl := .deasserted, session := false,
      trace := ([Event.dly 200000] ++ txwEvents 0xFF#8 0x14#8 (s.replyAt 0) (s.replyAt 1)
        ++ txwEvents 0xEF#8 (if (cmdVal w).getLsbD 0 then 0x1C#8 else 0x00#8) (s.replyAt 2) (s.replyAt 3)
        ++ txwEvents 0xFF#8 0x00#8 (s.replyAt 4) (s.replyAt 5)).reverse ++ s.trace }

/-! ## Frames: what an instruction leaves unchanged -/

/-- REG_WRITE and SET_LED change at most the status flags that an end writes, `UPC`, the link and (a wait's event) the
trace: every other register, and every element of the frame buffer, is as before (41_register_access.md R154,
45_led.md R260). -/
def Obligations.RegWriteAndSetLedFrame : Prop :=
  ∀ (i : Instr) (s t : State), (∃ reg val, i = .regWrite reg val) ∨ (∃ on, i = .setLed on) → exec i s = .next t →
    t = { s with busy := t.busy, ok := t.ok, err := t.err, upc := t.upc, link := t.link, trace := t.trace } ∧
    (t.busy = s.busy ∨ s.upc = .idle ∨ t.upc = .idle) ∧
    (t.upc ≠ .idle → t.ok = s.ok ∧ t.err = s.err) ∧
    (∀ j, Memory.read t.fb j = Memory.read s.fb j)

/-- REG_READ changes `RDATA` (and that it is written), and beside it what REG_WRITE may; nothing in the frame buffer
(R155). -/
def Obligations.RegReadFrame : Prop :=
  ∀ (reg : Byte) (s t : State), exec (.regRead reg) s = .next t →
    t = { s with busy := t.busy, ok := t.ok, err := t.err, upc := t.upc, link := t.link,
                 rdata := t.rdata, written := { s.written with rdata := t.written.rdata } } ∧
    (s.upc ≠ .q0 → t.rdata = s.rdata) ∧
    (t.upc ≠ .idle → t.ok = s.ok ∧ t.err = s.err) ∧
    (∀ j, Memory.read t.fb j = Memory.read s.fb j)

/-- INIT never writes `RDATA`, `DX`, `DY`, `PIXCNT`, `A`, `B`, `ITER`, `N`, nor the frame buffer, nor any register beside
those R187 names; `CSL` changes only by the pulse (42_init.md R187). -/
def Obligations.InitFrame : Prop :=
  ∀ (v : Byte) (s t : State), exec (.init v) s = .next t →
    t = { s with busy := t.busy, ok := t.ok, err := t.err, istate := t.istate, var := t.var, upc := t.upc,
                 link := t.link, csl := t.csl, t := t.t, id0 := t.id0, id1 := t.id1, c1 := t.c1, c2 := t.c2,
                 idx := t.idx, trace := t.trace } ∧
    (s.upc ≠ .i00 → t.var = s.var) ∧
    (s.upc ≠ .i01 → s.upc ≠ .i03 → s.upc ≠ .i05 → t.csl = s.csl) ∧
    (t.upc ≠ .idle → t.ok = s.ok ∧ t.err = s.err) ∧
    (∀ j, Memory.read t.fb j = Memory.read s.fb j)

/-- READ_MOTION changes `T`, `DX`, `DY` (and that they are written), and beside them what REG_WRITE may; nothing in the
frame buffer, and not `ISTATE` (43_motion.md R220). -/
def Obligations.ReadMotionFrame : Prop :=
  ∀ s t : State, exec .readMotion s = .next t →
    t = { s with busy := t.busy, ok := t.ok, err := t.err, upc := t.upc, link := t.link, t := t.t, dx := t.dx,
                 dy := t.dy, written := { s.written with motion := t.written.motion } } ∧
    (s.upc ≠ .m1 → s.upc ≠ .m2 → t.dx = s.dx) ∧ (s.upc ≠ .m3 → s.upc ≠ .m4 → t.dy = s.dy) ∧
    (t.upc ≠ .idle → t.ok = s.ok ∧ t.err = s.err) ∧
    (∀ j, Memory.read t.fb j = Memory.read s.fb j)

/-- FRAME_ENABLE writes no result register and nothing to the frame buffer: `IDX`, `T`, the polling count, and what
REG_WRITE may (44_frame.md R233). -/
def Obligations.FrameEnableFrame : Prop :=
  ∀ s t : State, exec .frameEnable s = .next t →
    t = { s with busy := t.busy, ok := t.ok, err := t.err, upc := t.upc, link := t.link, idx := t.idx, t := t.t,
                 polls := t.polls, trace := t.trace } ∧
    (t.upc ≠ .idle → t.ok = s.ok ∧ t.err = s.err) ∧
    (∀ j, Memory.read t.fb j = Memory.read s.fb j)

/-- FRAME_STREAM and FRAME_READ change the registers of R240 and R233, the polling count and what an end writes, only.
The frame buffer changes at the one micro-step that stores a pixel, and there at element `N` alone. -/
def Obligations.FrameStreamAndReadFrame : Prop :=
  ∀ (i : Instr) (s t : State), i = .frameStream ∨ i = .frameRead → exec i s = .next t →
    t = { s with busy := t.busy, ok := t.ok, err := t.err, upc := t.upc, link := t.link, idx := t.idx, t := t.t,
                 polls := t.polls, a := t.a, b := t.b, iter := t.iter, n := t.n, pixcnt := t.pixcnt,
                 written := { s.written with pixcnt := t.written.pixcnt }, fb := t.fb, trace := t.trace } ∧
    (s.upc ≠ .s8 → t.pixcnt = s.pixcnt) ∧
    (i = .frameStream → t.idx = s.idx) ∧
    (t.upc ≠ .idle → t.ok = s.ok ∧ t.err = s.err) ∧
    (s.upc ≠ .s5 → ∀ j, Memory.read t.fb j = Memory.read s.fb j) ∧
    (s.upc = .s5 → ∀ j, j ≠ s.n.toNat → Memory.read t.fb j = Memory.read s.fb j)

/-- A wire frame changes the lines, the link, the trace and the sensor's inputs; a read frame also the reply it keeps. No
register of a command changes, and nothing in the frame buffer (40_bus_transaction.md R136, R137). -/
def Obligations.WireFrameFrame : Prop :=
  ∀ (i : Instr) (s t : State), (∃ reg val, i = .wframe reg val) ∨ (∃ reg, i = .rframe reg) → exec i s = .next t →
    t = { s with csl := t.csl, session := t.session, link := t.link, rx := t.rx, replies := t.replies,
                 xfers := t.xfers, trace := t.trace } ∧
    ((∃ reg val, i = .wframe reg val) → t.rx = s.rx) ∧
    (∀ j, Memory.read t.fb j = Memory.read s.fb j)

/-! ## Whole-machine rules -/

/-- Only INIT writes `ISTATE` and `VAR` (10_state.md R22, R23, Table 10-1). -/
def Obligations.OnlyInitWritesIstateAndVar : Prop :=
  ∀ (i : Instr) (s t : State), (∀ v, i ≠ .init v) → exec i s = .next t → t.istate = s.istate ∧ t.var = s.var

/-- No step writes the parameters; while a command runs no step takes an offer, and no step outside reset changes the
latched command, so a running command is what it was until it ends (R21, R40, 20_memory.md R68, R74). -/
def Obligations.LatchedCommandAndParametersAreHeld : Prop :=
  ∀ s t : State, step s = .next t →
    t.cfg = s.cfg ∧
    (s.busy = true → t.cmdIn = s.cmdIn) ∧
    (s.rstNow = false → s.busy = true → t.op = s.op ∧ t.argReg = s.argReg ∧ t.argVal = s.argVal)

/-- The engine emits at most one bus event a step outside reset, and never takes one back (00_scope.md R8, R12). -/
def Obligations.AtMostOneEventAStep : Prop :=
  ∀ s t : State, s.rstNow = false → step s = .next t → t.trace = s.trace ∨ ∃ e, t.trace = e :: s.trace

/-- Every transfer is inside a transaction: a command's own micro-steps emit only the chip-select edges, the waits and the
frame-buffer writes, and neither open a session, transfer a byte nor use a reply up
(41_register_access.md R152, R139). -/
def Obligations.OnlyWireFramesReachTheBus : Prop :=
  ∀ (i : Instr) (s t : State), (∀ reg val, i ≠ .wframe reg val) → (∀ reg, i ≠ .rframe reg) → exec i s = .next t →
    t.session = s.session ∧ t.replies = s.replies ∧ t.xfers = s.xfers ∧
    (t.trace = s.trace ∨
      ∃ e, t.trace = e :: s.trace ∧
        (e = .csa ∨ e = .csd ∨ (∃ us, e = .dly us) ∨ (∃ j v, e = .fbw j v)))

/-- A command that ends inside `exec` ends by `done`, `OK = 1` and `ERR = 0`, or by `raise Failed`, `OK = 0` and `ERR` one of
the three codes a running command can raise; the two identity and variant codes come from INIT alone, with `ISTATE`
Failed (60_exceptions.md R275, R276, R271, R272, R282). -/
def Obligations.EveryEndIsDoneOrRaise : Prop :=
  ∀ (i : Instr) (s t : State), exec i s = .next t → s.busy = true → t.busy = false →
    t.upc = .idle ∧
    ((t.ok = true ∧ t.err = .none) ∨
     (t.ok = false ∧ t.err = .pollLimit ∧ s.cfg.pollLimit ≠ none) ∨
     (t.ok = false ∧ (t.err = .identityMismatch ∨ t.err = .unsupportedVariant) ∧ t.istate = .failed ∧
      ∃ v, i = .init v))

/-- `ISTATE` is a record, not a mode: what a step does to everything else does not depend on it (R285, R283,
70_reset_and_hazards.md R306). -/
def Obligations.IstateGatesNothing : Prop :=
  ∀ (s t : State) (x : InitState), step s = .next t →
    ∃ y, step { s with istate := x } = .next { t with istate := y }

/-- The frame buffer is never read: what a step does to everything else does not depend on its contents (20_memory.md R66,
R74). -/
def Obligations.FrameBufferIsNeverRead : Prop :=
  ∀ (s t : State) (m : List Host.Cell), step s = .next t →
    ∃ m', step { s with fb := m } = .next { t with fb := m' }

/-! ## The invariant -/

/-- The invariant holds right after reset. -/
def Obligations.ResetMeetsTheInvariant : Prop := State.reset.Inv

/-- Every step keeps the invariant: `UPC = IDLE` exactly when `BUSY = 0` and else a label of the latched command; a
transaction only inside a `WR` or `RD`; `CSL` and `SESSION` where the transaction and the pulse put them; `OK = 1` with
`ERR = 0`; `ISTATE` Running exactly while INIT executes; the list index, the loop counters and the calibration values in
their ranges; the frame buffer canonical, and `PIXCNT`, once written since reset, at most 1225 (10_state.md R22, R26, R27; 40_bus_transaction.md R139, R141; 42_init.md R181;
20_memory.md R66). -/
def Obligations.EveryStepKeepsTheInvariant : Prop :=
  ∀ s t : State, s.Inv → step s = .next t → t.Inv

/-- The engine never stops: from every state that meets the invariant a step answers a next state, never a fault or a
refusal (60_exceptions.md R280, R287; 40_bus_transaction.md R140). -/
def Obligations.NoStepStopsUnderTheInvariant : Prop :=
  ∀ s : State, s.Inv → ∃ t, step s = .next t

/-- Under the invariant a byte is transferred only with the session open and chip-select asserted, `ACQ` comes only with no
session open and `REL` only with one open (10_state.md R27, 40_bus_transaction.md R131, R133). -/
def Obligations.BusEventsComeInAnOpenSession : Prop :=
  ∀ s t : State, s.Inv → step s = .next t →
    (∀ tx rx, t.trace = .xfer tx rx :: s.trace → s.session = true ∧ s.csl = .asserted) ∧
    (t.trace = .acq :: s.trace → s.session = false) ∧
    (s.rstNow = false → t.trace = .rel :: s.trace → s.session = true)
end

