-- ==== Sys2Proof/Laws/Decode.lean ====
section
/-! SUPPORT. The fields of the words the encoder and the engine put together. -/

namespace Sys2Proof

@[simp] theorem cmdOp_cmdWord (op reg val : Byte) : cmdOp (cmdWord op reg val) = op := by
  apply BitVec.eq_of_getLsbD_eq
  intro i hi
  simp [cmdOp, cmdWord, hi, show 16 + i < 24 by omega, BitVec.getLsbD_of_ge val (16 + i) (by omega),
    BitVec.getLsbD_of_ge reg (16 + i - 8) (by omega)]

@[simp] theorem cmdReg_cmdWord (op reg val : Byte) : cmdReg (cmdWord op reg val) = reg := by
  apply BitVec.eq_of_getLsbD_eq
  intro i hi
  simp [cmdReg, cmdWord, hi, show 8 + i < 24 by omega, show 8 + i < 16 by omega]

@[simp] theorem cmdVal_cmdWord (op reg val : Byte) : cmdVal (cmdWord op reg val) = val := by
  apply BitVec.eq_of_getLsbD_eq
  intro i hi
  simp [cmdVal, cmdWord, hi, show i < 24 by omega, show i < 16 by omega]

/-- A command word is its three bytes. -/
@[simp] theorem cmdWord_fields (w : Cmd) : cmdWord (cmdOp w) (cmdReg w) (cmdVal w) = w := by
  apply BitVec.eq_of_getLsbD_eq
  intro i hi
  by_cases h8 : i < 8
  · simp [cmdWord, cmdOp, cmdReg, cmdVal, hi, h8, show i < 16 by omega]
  · by_cases h16 : i < 16
    · simp [cmdWord, cmdOp, cmdReg, cmdVal, hi, h8, h16, show i - 8 < 8 by omega, show 8 + (i - 8) = i by omega]
    · simp [cmdWord, cmdOp, cmdReg, cmdVal, hi, h8, h16, show ¬ i - 8 < 8 by omega, show i - 16 < 8 by omega,
        show 16 + (i - 16) = i by omega]

/-- The latched word of a state that has just latched `w` is `w` (10_state.md R21). -/
@[simp] theorem Machine.latched_latch (w : Cmd) (s : Machine.State) : (s.latch w).latched = w := by
  simp [Machine.State.latch, Machine.State.latched]

/-- The bits of two joined bytes. -/
theorem getLsbD_joinBytes (hi lo : Byte) (i : Nat) (h : i < 16) :
    (joinBytes hi lo).getLsbD i = if i < 8 then lo.getLsbD i else hi.getLsbD (i - 8) := by
  by_cases h8 : i < 8
  · simp [joinBytes, h, h8]
  · simp [joinBytes, h, h8, BitVec.getLsbD_of_ge lo i (by omega)]

@[simp] theorem frameSecond_joinBytes (hi lo : Byte) : frameSecond (joinBytes hi lo) = lo := by
  apply BitVec.eq_of_getLsbD_eq
  intro i h
  have := getLsbD_joinBytes hi lo i (by omega)
  simp only [h, if_true] at this
  rw [frameSecond, BitVec.getLsbD_extractLsb', Nat.zero_add, this]
  simp [h]

@[simp] theorem frameReg_joinBytes (hi lo : Byte) : frameReg (joinBytes hi lo) = hi.setWidth 7 := by
  apply BitVec.eq_of_getLsbD_eq
  intro i h
  have := getLsbD_joinBytes hi lo (8 + i) (by omega)
  rw [frameReg, BitVec.getLsbD_extractLsb', this, BitVec.getLsbD_setWidth]
  simp

@[simp] theorem frameFirst_joinBytes (hi lo : Byte) : Machine.frameFirst (joinBytes hi lo) = hi := by
  apply BitVec.eq_of_getLsbD_eq
  intro i h
  have := getLsbD_joinBytes hi lo (8 + i) (by omega)
  rw [Machine.frameFirst, BitVec.getLsbD_extractLsb', this]
  simp [h]

/-- Two joined bytes decode as a write frame where bit 7 of the first is set (30_encoding.md R100, R101). -/
theorem decodeFrame_joinBytes_write {hi lo : Byte} (h : hi.getLsbD 7 = true) :
    decodeFrame (joinBytes hi lo) = .ok (.wframe (hi.setWidth 7) lo) := by
  have h15 := getLsbD_joinBytes hi lo 15 (by omega)
  simp only [decodeFrame, h15, frameReg_joinBytes, frameSecond_joinBytes]
  simp [h]

/-- Two joined bytes decode as a read frame where bit 7 of the first is clear and the second is zero (R102). -/
theorem decodeFrame_joinBytes_read {hi : Byte} (h : hi.getLsbD 7 = false) :
    decodeFrame (joinBytes hi 0x00#8) = .ok (.rframe (hi.setWidth 7)) := by
  have h15 := getLsbD_joinBytes hi 0x00#8 15 (by omega)
  simp only [decodeFrame, h15, frameReg_joinBytes, frameSecond_joinBytes]
  simp [h, -BitVec.getLsbD_eq_getElem]

@[simp] theorem setWidth_writeAddr (reg : Byte) : (Machine.writeAddr reg).setWidth 7 = reg.setWidth 7 := by
  simp [Machine.writeAddr, BitVec.setWidth_or]

@[simp] theorem setWidth_readAddr (reg : Byte) : (Machine.readAddr reg).setWidth 7 = reg.setWidth 7 := by
  apply BitVec.eq_of_getLsbD_eq
  intro i hi
  have hd : (0x7F#7).getLsbD i = true := by interval_cases i <;> decide
  simp only [Machine.readAddr, BitVec.setWidth_and, BitVec.getLsbD_and]
  simp only [show BitVec.setWidth 7 0x7F#8 = 0x7F#7 from rfl, hd, Bool.and_true]

theorem highBit_writeAddr (reg : Byte) : (Machine.writeAddr reg).getLsbD 7 = true := by
  rw [Machine.writeAddr, BitVec.getLsbD_or]; simp

theorem highBit_readAddr (reg : Byte) : (Machine.readAddr reg).getLsbD 7 = false := by
  rw [Machine.readAddr, BitVec.getLsbD_and]; simp

/-- The engine's write frames carry the write format, whatever bit 7 of the operand (R103). -/
@[simp] theorem decodeFrame_writeFrame (reg val : Byte) :
    decodeFrame (Machine.writeFrame reg val) = .ok (.wframe (reg.setWidth 7) val) := by
  rw [Machine.writeFrame, decodeFrame_joinBytes_write (highBit_writeAddr reg), setWidth_writeAddr]

/-- The engine's read frames carry the read format, whatever bit 7 of the operand (R103). -/
@[simp] theorem decodeFrame_readFrame (reg : Byte) :
    decodeFrame (Machine.readFrame reg) = .ok (.rframe (reg.setWidth 7)) := by
  rw [Machine.readFrame, decodeFrame_joinBytes_read (highBit_readAddr reg), setWidth_readAddr]

end Sys2Proof
end

