-- ==== Sys2Proof/Laws/Memory.lean ====
section
/-! SUPPORT. The laws of the frame buffer: a read after a write, the canonical form, and that equal contents are equal
data. -/

namespace Sys2Proof.Machine

@[simp] theorem Memory.read_nil (i : Nat) : Memory.read [] i = none := rfl

/-- The element written reads as the value written. -/
theorem Memory.read_write_same (m : List Host.Cell) (i : Nat) (v : Byte) :
    Memory.read (Memory.write m i v) i = some v := by
  induction m with
  | nil => simp [Memory.write, Memory.read]
  | cons c rest ih =>
    obtain ⟨k, w⟩ := c
    unfold Memory.write
    split
    · simp [Memory.read]
    · split
      · simp [Memory.read]
      · rename_i _ hne
        simp [Memory.read, ih, Ne.symm hne]

/-- Every other element reads as before. -/
theorem Memory.read_write_other (m : List Host.Cell) (i j : Nat) (v : Byte) (h : j ≠ i) :
    Memory.read (Memory.write m i v) j = Memory.read m j := by
  induction m with
  | nil => simp [Memory.write, Memory.read, Ne.symm h]
  | cons c rest ih =>
    obtain ⟨k, w⟩ := c
    unfold Memory.write
    split
    · simp [Memory.read, Ne.symm h]
    · split
      · rename_i _ hik
        subst hik
        simp [Memory.read, Ne.symm h]
      · simp [Memory.read, ih]

theorem Memory.risingFrom_cons {lo k : Nat} {v : Byte} {rest : List Host.Cell} :
    Memory.risingFrom lo ((k, v) :: rest) = true ↔
      lo ≤ k ∧ k < Config.framePixels ∧ Memory.risingFrom (k + 1) rest = true := by
  simp [Memory.risingFrom, and_assoc]

/-- A write inside the buffer keeps the order. -/
theorem Memory.risingFrom_write (m : List Host.Cell) (lo i : Nat) (v : Byte) (hlo : lo ≤ i)
    (hi : i < Config.framePixels) (h : Memory.risingFrom lo m = true) :
    Memory.risingFrom lo (Memory.write m i v) = true := by
  induction m generalizing lo with
  | nil => simp [Memory.write, Memory.risingFrom, hlo, hi]
  | cons c rest ih =>
    obtain ⟨k, w⟩ := c
    obtain ⟨hk, hk', hrest⟩ := Memory.risingFrom_cons.mp h
    unfold Memory.write
    split
    · rename_i hik
      exact Memory.risingFrom_cons.mpr ⟨hlo, hi, Memory.risingFrom_cons.mpr ⟨hik, hk', hrest⟩⟩
    · split
      · rename_i _ hik
        exact Memory.risingFrom_cons.mpr ⟨hlo, hi, by rw [hik]; exact hrest⟩
      · rename_i hnlt hne
        exact Memory.risingFrom_cons.mpr ⟨hk, hk', ih (k + 1) (by omega) hrest⟩

/-- Every memory operation keeps the canonical form: `write` is the only one that changes the list. -/
theorem Memory.wf_write (m : List Host.Cell) (i : Nat) (v : Byte) (hi : i < Config.framePixels)
    (h : Memory.wf m = true) : Memory.wf (Memory.write m i v) = true :=
  Memory.risingFrom_write m 0 i v (Nat.zero_le i) hi h

/-- An element below the first address of a rising list reads as no value. -/
theorem Memory.read_below (m : List Host.Cell) (lo i : Nat) (h : Memory.risingFrom lo m = true) (hi : i < lo) :
    Memory.read m i = none := by
  induction m generalizing lo with
  | nil => rfl
  | cons c rest ih =>
    obtain ⟨k, w⟩ := c
    obtain ⟨hk, _, hrest⟩ := Memory.risingFrom_cons.mp h
    have hne : k ≠ i := by omega
    simp [Memory.read, hne, ih (k + 1) hrest (by omega)]

/-- Equal contents in canonical form are equal data. -/
theorem Memory.ext_of_risingFrom (m m' : List Host.Cell) (lo : Nat) (h : Memory.risingFrom lo m = true)
    (h' : Memory.risingFrom lo m' = true) (heq : ∀ i, Memory.read m i = Memory.read m' i) : m = m' := by
  induction m generalizing m' lo with
  | nil =>
    cases m' with
    | nil => rfl
    | cons c rest =>
      obtain ⟨k, w⟩ := c
      simpa [Memory.read] using heq k
  | cons c rest ih =>
    obtain ⟨k, w⟩ := c
    cases m' with
    | nil => simpa [Memory.read] using heq k
    | cons c' rest' =>
      obtain ⟨k', w'⟩ := c'
      obtain ⟨_, _, hrest⟩ := Memory.risingFrom_cons.mp h
      obtain ⟨_, _, hrest'⟩ := Memory.risingFrom_cons.mp h'
      have hkk : k = k' := by
        have h1 := heq k
        have h2 := heq k'
        by_contra hne
        rcases Nat.lt_or_gt_of_ne hne with hlt | hgt
        · have := Memory.read_below rest' (k' + 1) k hrest' (by omega)
          simp [Memory.read, Ne.symm hne, this] at h1
        · have := Memory.read_below rest (k + 1) k' hrest (by omega)
          simp [Memory.read, hne, this] at h2
      subst hkk
      have hv : w = w' := by simpa [Memory.read] using heq k
      subst hv
      have hr : rest = rest' := by
        apply ih rest' (k + 1) hrest hrest'
        intro i
        by_cases hki : k = i
        · subst hki
          rw [Memory.read_below rest (k + 1) k hrest (by omega),
            Memory.read_below rest' (k + 1) k hrest' (by omega)]
        · simpa [Memory.read, hki] using heq i
      rw [hr]

/-- Equal contents in canonical form are equal data. -/
theorem Memory.ext_of_wf (m m' : List Host.Cell) (h : Memory.wf m = true) (h' : Memory.wf m' = true)
    (heq : ∀ i, Memory.read m i = Memory.read m' i) : m = m' :=
  Memory.ext_of_risingFrom m m' 0 h h' heq

end Sys2Proof.Machine
end

