-- ==== Sys2Proof/Laws/State.lean ====
section
/-! SUPPORT. What each named update of State does to each field: one lemma per field per update, true by rfl. -/

namespace Sys2Proof.Machine

/-! ## emit -/

@[simp] theorem State.emit_op (e : Event) (s : State) : (State.emit e s).op = s.op := rfl
@[simp] theorem State.emit_argReg (e : Event) (s : State) : (State.emit e s).argReg = s.argReg := rfl
@[simp] theorem State.emit_argVal (e : Event) (s : State) : (State.emit e s).argVal = s.argVal := rfl
@[simp] theorem State.emit_busy (e : Event) (s : State) : (State.emit e s).busy = s.busy := rfl
@[simp] theorem State.emit_ok (e : Event) (s : State) : (State.emit e s).ok = s.ok := rfl
@[simp] theorem State.emit_err (e : Event) (s : State) : (State.emit e s).err = s.err := rfl
@[simp] theorem State.emit_istate (e : Event) (s : State) : (State.emit e s).istate = s.istate := rfl
@[simp] theorem State.emit_var (e : Event) (s : State) : (State.emit e s).var = s.var := rfl
@[simp] theorem State.emit_t (e : Event) (s : State) : (State.emit e s).t = s.t := rfl
@[simp] theorem State.emit_id0 (e : Event) (s : State) : (State.emit e s).id0 = s.id0 := rfl
@[simp] theorem State.emit_id1 (e : Event) (s : State) : (State.emit e s).id1 = s.id1 := rfl
@[simp] theorem State.emit_a (e : Event) (s : State) : (State.emit e s).a = s.a := rfl
@[simp] theorem State.emit_b (e : Event) (s : State) : (State.emit e s).b = s.b := rfl
@[simp] theorem State.emit_c1 (e : Event) (s : State) : (State.emit e s).c1 = s.c1 := rfl
@[simp] theorem State.emit_c2 (e : Event) (s : State) : (State.emit e s).c2 = s.c2 := rfl
@[simp] theorem State.emit_iter (e : Event) (s : State) : (State.emit e s).iter = s.iter := rfl
@[simp] theorem State.emit_n (e : Event) (s : State) : (State.emit e s).n = s.n := rfl
@[simp] theorem State.emit_idx (e : Event) (s : State) : (State.emit e s).idx = s.idx := rfl
@[simp] theorem State.emit_rdata (e : Event) (s : State) : (State.emit e s).rdata = s.rdata := rfl
@[simp] theorem State.emit_dx (e : Event) (s : State) : (State.emit e s).dx = s.dx := rfl
@[simp] theorem State.emit_dy (e : Event) (s : State) : (State.emit e s).dy = s.dy := rfl
@[simp] theorem State.emit_pixcnt (e : Event) (s : State) : (State.emit e s).pixcnt = s.pixcnt := rfl
@[simp] theorem State.emit_upc (e : Event) (s : State) : (State.emit e s).upc = s.upc := rfl
@[simp] theorem State.emit_csl (e : Event) (s : State) : (State.emit e s).csl = s.csl := rfl
@[simp] theorem State.emit_session (e : Event) (s : State) : (State.emit e s).session = s.session := rfl
@[simp] theorem State.emit_link (e : Event) (s : State) : (State.emit e s).link = s.link := rfl
@[simp] theorem State.emit_rx (e : Event) (s : State) : (State.emit e s).rx = s.rx := rfl
@[simp] theorem State.emit_polls (e : Event) (s : State) : (State.emit e s).polls = s.polls := rfl
@[simp] theorem State.emit_written (e : Event) (s : State) : (State.emit e s).written = s.written := rfl
@[simp] theorem State.emit_fb (e : Event) (s : State) : (State.emit e s).fb = s.fb := rfl
@[simp] theorem State.emit_replies (e : Event) (s : State) : (State.emit e s).replies = s.replies := rfl
@[simp] theorem State.emit_xfers (e : Event) (s : State) : (State.emit e s).xfers = s.xfers := rfl
@[simp] theorem State.emit_cmdIn (e : Event) (s : State) : (State.emit e s).cmdIn = s.cmdIn := rfl
@[simp] theorem State.emit_rstIn (e : Event) (s : State) : (State.emit e s).rstIn = s.rstIn := rfl
@[simp] theorem State.emit_cfg (e : Event) (s : State) : (State.emit e s).cfg = s.cfg := rfl
@[simp] theorem State.emit_trace (e : Event) (s : State) : (State.emit e s).trace = e :: s.trace := rfl

/-! ## tookByte -/

@[simp] theorem State.tookByte_op (s : State) : (s.tookByte).op = s.op := rfl
@[simp] theorem State.tookByte_argReg (s : State) : (s.tookByte).argReg = s.argReg := rfl
@[simp] theorem State.tookByte_argVal (s : State) : (s.tookByte).argVal = s.argVal := rfl
@[simp] theorem State.tookByte_busy (s : State) : (s.tookByte).busy = s.busy := rfl
@[simp] theorem State.tookByte_ok (s : State) : (s.tookByte).ok = s.ok := rfl
@[simp] theorem State.tookByte_err (s : State) : (s.tookByte).err = s.err := rfl
@[simp] theorem State.tookByte_istate (s : State) : (s.tookByte).istate = s.istate := rfl
@[simp] theorem State.tookByte_var (s : State) : (s.tookByte).var = s.var := rfl
@[simp] theorem State.tookByte_t (s : State) : (s.tookByte).t = s.t := rfl
@[simp] theorem State.tookByte_id0 (s : State) : (s.tookByte).id0 = s.id0 := rfl
@[simp] theorem State.tookByte_id1 (s : State) : (s.tookByte).id1 = s.id1 := rfl
@[simp] theorem State.tookByte_a (s : State) : (s.tookByte).a = s.a := rfl
@[simp] theorem State.tookByte_b (s : State) : (s.tookByte).b = s.b := rfl
@[simp] theorem State.tookByte_c1 (s : State) : (s.tookByte).c1 = s.c1 := rfl
@[simp] theorem State.tookByte_c2 (s : State) : (s.tookByte).c2 = s.c2 := rfl
@[simp] theorem State.tookByte_iter (s : State) : (s.tookByte).iter = s.iter := rfl
@[simp] theorem State.tookByte_n (s : State) : (s.tookByte).n = s.n := rfl
@[simp] theorem State.tookByte_idx (s : State) : (s.tookByte).idx = s.idx := rfl
@[simp] theorem State.tookByte_rdata (s : State) : (s.tookByte).rdata = s.rdata := rfl
@[simp] theorem State.tookByte_dx (s : State) : (s.tookByte).dx = s.dx := rfl
@[simp] theorem State.tookByte_dy (s : State) : (s.tookByte).dy = s.dy := rfl
@[simp] theorem State.tookByte_pixcnt (s : State) : (s.tookByte).pixcnt = s.pixcnt := rfl
@[simp] theorem State.tookByte_upc (s : State) : (s.tookByte).upc = s.upc := rfl
@[simp] theorem State.tookByte_csl (s : State) : (s.tookByte).csl = s.csl := rfl
@[simp] theorem State.tookByte_session (s : State) : (s.tookByte).session = s.session := rfl
@[simp] theorem State.tookByte_link (s : State) : (s.tookByte).link = s.link := rfl
@[simp] theorem State.tookByte_rx (s : State) : (s.tookByte).rx = s.rx := rfl
@[simp] theorem State.tookByte_polls (s : State) : (s.tookByte).polls = s.polls := rfl
@[simp] theorem State.tookByte_written (s : State) : (s.tookByte).written = s.written := rfl
@[simp] theorem State.tookByte_fb (s : State) : (s.tookByte).fb = s.fb := rfl
@[simp] theorem State.tookByte_replies (s : State) : (s.tookByte).replies = s.replies.tail := rfl
@[simp] theorem State.tookByte_xfers (s : State) : (s.tookByte).xfers = s.xfers + 1 := rfl
@[simp] theorem State.tookByte_cmdIn (s : State) : (s.tookByte).cmdIn = s.cmdIn := rfl
@[simp] theorem State.tookByte_rstIn (s : State) : (s.tookByte).rstIn = s.rstIn := rfl
@[simp] theorem State.tookByte_cfg (s : State) : (s.tookByte).cfg = s.cfg := rfl
@[simp] theorem State.tookByte_trace (s : State) : (s.tookByte).trace = s.trace := rfl

/-! ## driveCs -/

@[simp] theorem State.driveCs_op (l : Level) (s : State) : (s.driveCs l).op = s.op := rfl
@[simp] theorem State.driveCs_argReg (l : Level) (s : State) : (s.driveCs l).argReg = s.argReg := rfl
@[simp] theorem State.driveCs_argVal (l : Level) (s : State) : (s.driveCs l).argVal = s.argVal := rfl
@[simp] theorem State.driveCs_busy (l : Level) (s : State) : (s.driveCs l).busy = s.busy := rfl
@[simp] theorem State.driveCs_ok (l : Level) (s : State) : (s.driveCs l).ok = s.ok := rfl
@[simp] theorem State.driveCs_err (l : Level) (s : State) : (s.driveCs l).err = s.err := rfl
@[simp] theorem State.driveCs_istate (l : Level) (s : State) : (s.driveCs l).istate = s.istate := rfl
@[simp] theorem State.driveCs_var (l : Level) (s : State) : (s.driveCs l).var = s.var := rfl
@[simp] theorem State.driveCs_t (l : Level) (s : State) : (s.driveCs l).t = s.t := rfl
@[simp] theorem State.driveCs_id0 (l : Level) (s : State) : (s.driveCs l).id0 = s.id0 := rfl
@[simp] theorem State.driveCs_id1 (l : Level) (s : State) : (s.driveCs l).id1 = s.id1 := rfl
@[simp] theorem State.driveCs_a (l : Level) (s : State) : (s.driveCs l).a = s.a := rfl
@[simp] theorem State.driveCs_b (l : Level) (s : State) : (s.driveCs l).b = s.b := rfl
@[simp] theorem State.driveCs_c1 (l : Level) (s : State) : (s.driveCs l).c1 = s.c1 := rfl
@[simp] theorem State.driveCs_c2 (l : Level) (s : State) : (s.driveCs l).c2 = s.c2 := rfl
@[simp] theorem State.driveCs_iter (l : Level) (s : State) : (s.driveCs l).iter = s.iter := rfl
@[simp] theorem State.driveCs_n (l : Level) (s : State) : (s.driveCs l).n = s.n := rfl
@[simp] theorem State.driveCs_idx (l : Level) (s : State) : (s.driveCs l).idx = s.idx := rfl
@[simp] theorem State.driveCs_rdata (l : Level) (s : State) : (s.driveCs l).rdata = s.rdata := rfl
@[simp] theorem State.driveCs_dx (l : Level) (s : State) : (s.driveCs l).dx = s.dx := rfl
@[simp] theorem State.driveCs_dy (l : Level) (s : State) : (s.driveCs l).dy = s.dy := rfl
@[simp] theorem State.driveCs_pixcnt (l : Level) (s : State) : (s.driveCs l).pixcnt = s.pixcnt := rfl
@[simp] theorem State.driveCs_upc (l : Level) (s : State) : (s.driveCs l).upc = s.upc := rfl
@[simp] theorem State.driveCs_csl (l : Level) (s : State) : (s.driveCs l).csl = l := rfl
@[simp] theorem State.driveCs_session (l : Level) (s : State) : (s.driveCs l).session = s.session := rfl
@[simp] theorem State.driveCs_link (l : Level) (s : State) : (s.driveCs l).link = s.link := rfl
@[simp] theorem State.driveCs_rx (l : Level) (s : State) : (s.driveCs l).rx = s.rx := rfl
@[simp] theorem State.driveCs_polls (l : Level) (s : State) : (s.driveCs l).polls = s.polls := rfl
@[simp] theorem State.driveCs_written (l : Level) (s : State) : (s.driveCs l).written = s.written := rfl
@[simp] theorem State.driveCs_fb (l : Level) (s : State) : (s.driveCs l).fb = s.fb := rfl
@[simp] theorem State.driveCs_replies (l : Level) (s : State) : (s.driveCs l).replies = s.replies := rfl
@[simp] theorem State.driveCs_xfers (l : Level) (s : State) : (s.driveCs l).xfers = s.xfers := rfl
@[simp] theorem State.driveCs_cmdIn (l : Level) (s : State) : (s.driveCs l).cmdIn = s.cmdIn := rfl
@[simp] theorem State.driveCs_rstIn (l : Level) (s : State) : (s.driveCs l).rstIn = s.rstIn := rfl
@[simp] theorem State.driveCs_cfg (l : Level) (s : State) : (s.driveCs l).cfg = s.cfg := rfl
@[simp] theorem State.driveCs_trace (l : Level) (s : State) : (s.driveCs l).trace = csEvent l :: s.trace := rfl

/-! ## transfer -/

@[simp] theorem State.transfer_op (tx : Byte) (keep : Bool) (s : State) : (s.transfer tx keep).op = s.op := rfl
@[simp] theorem State.transfer_argReg (tx : Byte) (keep : Bool) (s : State) : (s.transfer tx keep).argReg = s.argReg := rfl
@[simp] theorem State.transfer_argVal (tx : Byte) (keep : Bool) (s : State) : (s.transfer tx keep).argVal = s.argVal := rfl
@[simp] theorem State.transfer_busy (tx : Byte) (keep : Bool) (s : State) : (s.transfer tx keep).busy = s.busy := rfl
@[simp] theorem State.transfer_ok (tx : Byte) (keep : Bool) (s : State) : (s.transfer tx keep).ok = s.ok := rfl
@[simp] theorem State.transfer_err (tx : Byte) (keep : Bool) (s : State) : (s.transfer tx keep).err = s.err := rfl
@[simp] theorem State.transfer_istate (tx : Byte) (keep : Bool) (s : State) : (s.transfer tx keep).istate = s.istate := rfl
@[simp] theorem State.transfer_var (tx : Byte) (keep : Bool) (s : State) : (s.transfer tx keep).var = s.var := rfl
@[simp] theorem State.transfer_t (tx : Byte) (keep : Bool) (s : State) : (s.transfer tx keep).t = s.t := rfl
@[simp] theorem State.transfer_id0 (tx : Byte) (keep : Bool) (s : State) : (s.transfer tx keep).id0 = s.id0 := rfl
@[simp] theorem State.transfer_id1 (tx : Byte) (keep : Bool) (s : State) : (s.transfer tx keep).id1 = s.id1 := rfl
@[simp] theorem State.transfer_a (tx : Byte) (keep : Bool) (s : State) : (s.transfer tx keep).a = s.a := rfl
@[simp] theorem State.transfer_b (tx : Byte) (keep : Bool) (s : State) : (s.transfer tx keep).b = s.b := rfl
@[simp] theorem State.transfer_c1 (tx : Byte) (keep : Bool) (s : State) : (s.transfer tx keep).c1 = s.c1 := rfl
@[simp] theorem State.transfer_c2 (tx : Byte) (keep : Bool) (s : State) : (s.transfer tx keep).c2 = s.c2 := rfl
@[simp] theorem State.transfer_iter (tx : Byte) (keep : Bool) (s : State) : (s.transfer tx keep).iter = s.iter := rfl
@[simp] theorem State.transfer_n (tx : Byte) (keep : Bool) (s : State) : (s.transfer tx keep).n = s.n := rfl
@[simp] theorem State.transfer_idx (tx : Byte) (keep : Bool) (s : State) : (s.transfer tx keep).idx = s.idx := rfl
@[simp] theorem State.transfer_rdata (tx : Byte) (keep : Bool) (s : State) : (s.transfer tx keep).rdata = s.rdata := rfl
@[simp] theorem State.transfer_dx (tx : Byte) (keep : Bool) (s : State) : (s.transfer tx keep).dx = s.dx := rfl
@[simp] theorem State.transfer_dy (tx : Byte) (keep : Bool) (s : State) : (s.transfer tx keep).dy = s.dy := rfl
@[simp] theorem State.transfer_pixcnt (tx : Byte) (keep : Bool) (s : State) : (s.transfer tx keep).pixcnt = s.pixcnt := rfl
@[simp] theorem State.transfer_upc (tx : Byte) (keep : Bool) (s : State) : (s.transfer tx keep).upc = s.upc := rfl
@[simp] theorem State.transfer_csl (tx : Byte) (keep : Bool) (s : State) : (s.transfer tx keep).csl = s.csl := rfl
@[simp] theorem State.transfer_session (tx : Byte) (keep : Bool) (s : State) : (s.transfer tx keep).session = s.session := rfl
@[simp] theorem State.transfer_link (tx : Byte) (keep : Bool) (s : State) : (s.transfer tx keep).link = s.link := rfl
@[simp] theorem State.transfer_rx (tx : Byte) (keep : Bool) (s : State) : (s.transfer tx keep).rx = if keep then s.sensorByte else s.rx := rfl
@[simp] theorem State.transfer_polls (tx : Byte) (keep : Bool) (s : State) : (s.transfer tx keep).polls = s.polls := rfl
@[simp] theorem State.transfer_written (tx : Byte) (keep : Bool) (s : State) : (s.transfer tx keep).written = s.written := rfl
@[simp] theorem State.transfer_fb (tx : Byte) (keep : Bool) (s : State) : (s.transfer tx keep).fb = s.fb := rfl
@[simp] theorem State.transfer_replies (tx : Byte) (keep : Bool) (s : State) : (s.transfer tx keep).replies = s.replies.tail := rfl
@[simp] theorem State.transfer_xfers (tx : Byte) (keep : Bool) (s : State) : (s.transfer tx keep).xfers = s.xfers + 1 := rfl
@[simp] theorem State.transfer_cmdIn (tx : Byte) (keep : Bool) (s : State) : (s.transfer tx keep).cmdIn = s.cmdIn := rfl
@[simp] theorem State.transfer_rstIn (tx : Byte) (keep : Bool) (s : State) : (s.transfer tx keep).rstIn = s.rstIn := rfl
@[simp] theorem State.transfer_cfg (tx : Byte) (keep : Bool) (s : State) : (s.transfer tx keep).cfg = s.cfg := rfl
@[simp] theorem State.transfer_trace (tx : Byte) (keep : Bool) (s : State) : (s.transfer tx keep).trace = .xfer tx s.sensorByte :: s.trace := rfl

/-! ## goto -/

@[simp] theorem State.goto_op (l : Label) (s : State) : (s.goto l).op = s.op := rfl
@[simp] theorem State.goto_argReg (l : Label) (s : State) : (s.goto l).argReg = s.argReg := rfl
@[simp] theorem State.goto_argVal (l : Label) (s : State) : (s.goto l).argVal = s.argVal := rfl
@[simp] theorem State.goto_busy (l : Label) (s : State) : (s.goto l).busy = s.busy := rfl
@[simp] theorem State.goto_ok (l : Label) (s : State) : (s.goto l).ok = s.ok := rfl
@[simp] theorem State.goto_err (l : Label) (s : State) : (s.goto l).err = s.err := rfl
@[simp] theorem State.goto_istate (l : Label) (s : State) : (s.goto l).istate = s.istate := rfl
@[simp] theorem State.goto_var (l : Label) (s : State) : (s.goto l).var = s.var := rfl
@[simp] theorem State.goto_t (l : Label) (s : State) : (s.goto l).t = s.t := rfl
@[simp] theorem State.goto_id0 (l : Label) (s : State) : (s.goto l).id0 = s.id0 := rfl
@[simp] theorem State.goto_id1 (l : Label) (s : State) : (s.goto l).id1 = s.id1 := rfl
@[simp] theorem State.goto_a (l : Label) (s : State) : (s.goto l).a = s.a := rfl
@[simp] theorem State.goto_b (l : Label) (s : State) : (s.goto l).b = s.b := rfl
@[simp] theorem State.goto_c1 (l : Label) (s : State) : (s.goto l).c1 = s.c1 := rfl
@[simp] theorem State.goto_c2 (l : Label) (s : State) : (s.goto l).c2 = s.c2 := rfl
@[simp] theorem State.goto_iter (l : Label) (s : State) : (s.goto l).iter = s.iter := rfl
@[simp] theorem State.goto_n (l : Label) (s : State) : (s.goto l).n = s.n := rfl
@[simp] theorem State.goto_idx (l : Label) (s : State) : (s.goto l).idx = s.idx := rfl
@[simp] theorem State.goto_rdata (l : Label) (s : State) : (s.goto l).rdata = s.rdata := rfl
@[simp] theorem State.goto_dx (l : Label) (s : State) : (s.goto l).dx = s.dx := rfl
@[simp] theorem State.goto_dy (l : Label) (s : State) : (s.goto l).dy = s.dy := rfl
@[simp] theorem State.goto_pixcnt (l : Label) (s : State) : (s.goto l).pixcnt = s.pixcnt := rfl
@[simp] theorem State.goto_upc (l : Label) (s : State) : (s.goto l).upc = l := rfl
@[simp] theorem State.goto_csl (l : Label) (s : State) : (s.goto l).csl = s.csl := rfl
@[simp] theorem State.goto_session (l : Label) (s : State) : (s.goto l).session = s.session := rfl
@[simp] theorem State.goto_link (l : Label) (s : State) : (s.goto l).link = s.link := rfl
@[simp] theorem State.goto_rx (l : Label) (s : State) : (s.goto l).rx = s.rx := rfl
@[simp] theorem State.goto_polls (l : Label) (s : State) : (s.goto l).polls = s.polls := rfl
@[simp] theorem State.goto_written (l : Label) (s : State) : (s.goto l).written = s.written := rfl
@[simp] theorem State.goto_fb (l : Label) (s : State) : (s.goto l).fb = s.fb := rfl
@[simp] theorem State.goto_replies (l : Label) (s : State) : (s.goto l).replies = s.replies := rfl
@[simp] theorem State.goto_xfers (l : Label) (s : State) : (s.goto l).xfers = s.xfers := rfl
@[simp] theorem State.goto_cmdIn (l : Label) (s : State) : (s.goto l).cmdIn = s.cmdIn := rfl
@[simp] theorem State.goto_rstIn (l : Label) (s : State) : (s.goto l).rstIn = s.rstIn := rfl
@[simp] theorem State.goto_cfg (l : Label) (s : State) : (s.goto l).cfg = s.cfg := rfl
@[simp] theorem State.goto_trace (l : Label) (s : State) : (s.goto l).trace = s.trace := rfl

/-! ## latch -/

@[simp] theorem State.latch_op (w : Cmd) (s : State) : (s.latch w).op = cmdOp w := rfl
@[simp] theorem State.latch_argReg (w : Cmd) (s : State) : (s.latch w).argReg = cmdReg w := rfl
@[simp] theorem State.latch_argVal (w : Cmd) (s : State) : (s.latch w).argVal = cmdVal w := rfl
@[simp] theorem State.latch_busy (w : Cmd) (s : State) : (s.latch w).busy = s.busy := rfl
@[simp] theorem State.latch_ok (w : Cmd) (s : State) : (s.latch w).ok = s.ok := rfl
@[simp] theorem State.latch_err (w : Cmd) (s : State) : (s.latch w).err = s.err := rfl
@[simp] theorem State.latch_istate (w : Cmd) (s : State) : (s.latch w).istate = s.istate := rfl
@[simp] theorem State.latch_var (w : Cmd) (s : State) : (s.latch w).var = s.var := rfl
@[simp] theorem State.latch_t (w : Cmd) (s : State) : (s.latch w).t = s.t := rfl
@[simp] theorem State.latch_id0 (w : Cmd) (s : State) : (s.latch w).id0 = s.id0 := rfl
@[simp] theorem State.latch_id1 (w : Cmd) (s : State) : (s.latch w).id1 = s.id1 := rfl
@[simp] theorem State.latch_a (w : Cmd) (s : State) : (s.latch w).a = s.a := rfl
@[simp] theorem State.latch_b (w : Cmd) (s : State) : (s.latch w).b = s.b := rfl
@[simp] theorem State.latch_c1 (w : Cmd) (s : State) : (s.latch w).c1 = s.c1 := rfl
@[simp] theorem State.latch_c2 (w : Cmd) (s : State) : (s.latch w).c2 = s.c2 := rfl
@[simp] theorem State.latch_iter (w : Cmd) (s : State) : (s.latch w).iter = s.iter := rfl
@[simp] theorem State.latch_n (w : Cmd) (s : State) : (s.latch w).n = s.n := rfl
@[simp] theorem State.latch_idx (w : Cmd) (s : State) : (s.latch w).idx = s.idx := rfl
@[simp] theorem State.latch_rdata (w : Cmd) (s : State) : (s.latch w).rdata = s.rdata := rfl
@[simp] theorem State.latch_dx (w : Cmd) (s : State) : (s.latch w).dx = s.dx := rfl
@[simp] theorem State.latch_dy (w : Cmd) (s : State) : (s.latch w).dy = s.dy := rfl
@[simp] theorem State.latch_pixcnt (w : Cmd) (s : State) : (s.latch w).pixcnt = s.pixcnt := rfl
@[simp] theorem State.latch_upc (w : Cmd) (s : State) : (s.latch w).upc = s.upc := rfl
@[simp] theorem State.latch_csl (w : Cmd) (s : State) : (s.latch w).csl = s.csl := rfl
@[simp] theorem State.latch_session (w : Cmd) (s : State) : (s.latch w).session = s.session := rfl
@[simp] theorem State.latch_link (w : Cmd) (s : State) : (s.latch w).link = s.link := rfl
@[simp] theorem State.latch_rx (w : Cmd) (s : State) : (s.latch w).rx = s.rx := rfl
@[simp] theorem State.latch_polls (w : Cmd) (s : State) : (s.latch w).polls = s.polls := rfl
@[simp] theorem State.latch_written (w : Cmd) (s : State) : (s.latch w).written = s.written := rfl
@[simp] theorem State.latch_fb (w : Cmd) (s : State) : (s.latch w).fb = s.fb := rfl
@[simp] theorem State.latch_replies (w : Cmd) (s : State) : (s.latch w).replies = s.replies := rfl
@[simp] theorem State.latch_xfers (w : Cmd) (s : State) : (s.latch w).xfers = s.xfers := rfl
@[simp] theorem State.latch_cmdIn (w : Cmd) (s : State) : (s.latch w).cmdIn = s.cmdIn.tail := rfl
@[simp] theorem State.latch_rstIn (w : Cmd) (s : State) : (s.latch w).rstIn = s.rstIn := rfl
@[simp] theorem State.latch_cfg (w : Cmd) (s : State) : (s.latch w).cfg = s.cfg := rfl
@[simp] theorem State.latch_trace (w : Cmd) (s : State) : (s.latch w).trace = s.trace := rfl

/-! ## dispatchTo -/

@[simp] theorem State.dispatchTo_op (l : Label) (s : State) : (s.dispatchTo l).op = s.op := rfl
@[simp] theorem State.dispatchTo_argReg (l : Label) (s : State) : (s.dispatchTo l).argReg = s.argReg := rfl
@[simp] theorem State.dispatchTo_argVal (l : Label) (s : State) : (s.dispatchTo l).argVal = s.argVal := rfl
@[simp] theorem State.dispatchTo_busy (l : Label) (s : State) : (s.dispatchTo l).busy = true := rfl
@[simp] theorem State.dispatchTo_ok (l : Label) (s : State) : (s.dispatchTo l).ok = s.ok := rfl
@[simp] theorem State.dispatchTo_err (l : Label) (s : State) : (s.dispatchTo l).err = s.err := rfl
@[simp] theorem State.dispatchTo_istate (l : Label) (s : State) : (s.dispatchTo l).istate = s.istate := rfl
@[simp] theorem State.dispatchTo_var (l : Label) (s : State) : (s.dispatchTo l).var = s.var := rfl
@[simp] theorem State.dispatchTo_t (l : Label) (s : State) : (s.dispatchTo l).t = s.t := rfl
@[simp] theorem State.dispatchTo_id0 (l : Label) (s : State) : (s.dispatchTo l).id0 = s.id0 := rfl
@[simp] theorem State.dispatchTo_id1 (l : Label) (s : State) : (s.dispatchTo l).id1 = s.id1 := rfl
@[simp] theorem State.dispatchTo_a (l : Label) (s : State) : (s.dispatchTo l).a = s.a := rfl
@[simp] theorem State.dispatchTo_b (l : Label) (s : State) : (s.dispatchTo l).b = s.b := rfl
@[simp] theorem State.dispatchTo_c1 (l : Label) (s : State) : (s.dispatchTo l).c1 = s.c1 := rfl
@[simp] theorem State.dispatchTo_c2 (l : Label) (s : State) : (s.dispatchTo l).c2 = s.c2 := rfl
@[simp] theorem State.dispatchTo_iter (l : Label) (s : State) : (s.dispatchTo l).iter = s.iter := rfl
@[simp] theorem State.dispatchTo_n (l : Label) (s : State) : (s.dispatchTo l).n = s.n := rfl
@[simp] theorem State.dispatchTo_idx (l : Label) (s : State) : (s.dispatchTo l).idx = s.idx := rfl
@[simp] theorem State.dispatchTo_rdata (l : Label) (s : State) : (s.dispatchTo l).rdata = s.rdata := rfl
@[simp] theorem State.dispatchTo_dx (l : Label) (s : State) : (s.dispatchTo l).dx = s.dx := rfl
@[simp] theorem State.dispatchTo_dy (l : Label) (s : State) : (s.dispatchTo l).dy = s.dy := rfl
@[simp] theorem State.dispatchTo_pixcnt (l : Label) (s : State) : (s.dispatchTo l).pixcnt = s.pixcnt := rfl
@[simp] theorem State.dispatchTo_upc (l : Label) (s : State) : (s.dispatchTo l).upc = l := rfl
@[simp] theorem State.dispatchTo_csl (l : Label) (s : State) : (s.dispatchTo l).csl = s.csl := rfl
@[simp] theorem State.dispatchTo_session (l : Label) (s : State) : (s.dispatchTo l).session = s.session := rfl
@[simp] theorem State.dispatchTo_link (l : Label) (s : State) : (s.dispatchTo l).link = s.link := rfl
@[simp] theorem State.dispatchTo_rx (l : Label) (s : State) : (s.dispatchTo l).rx = s.rx := rfl
@[simp] theorem State.dispatchTo_polls (l : Label) (s : State) : (s.dispatchTo l).polls = s.polls := rfl
@[simp] theorem State.dispatchTo_written (l : Label) (s : State) : (s.dispatchTo l).written = s.written := rfl
@[simp] theorem State.dispatchTo_fb (l : Label) (s : State) : (s.dispatchTo l).fb = s.fb := rfl
@[simp] theorem State.dispatchTo_replies (l : Label) (s : State) : (s.dispatchTo l).replies = s.replies := rfl
@[simp] theorem State.dispatchTo_xfers (l : Label) (s : State) : (s.dispatchTo l).xfers = s.xfers := rfl
@[simp] theorem State.dispatchTo_cmdIn (l : Label) (s : State) : (s.dispatchTo l).cmdIn = s.cmdIn := rfl
@[simp] theorem State.dispatchTo_rstIn (l : Label) (s : State) : (s.dispatchTo l).rstIn = s.rstIn := rfl
@[simp] theorem State.dispatchTo_cfg (l : Label) (s : State) : (s.dispatchTo l).cfg = s.cfg := rfl
@[simp] theorem State.dispatchTo_trace (l : Label) (s : State) : (s.dispatchTo l).trace = s.trace := rfl

/-! ## done -/

@[simp] theorem State.done_op (s : State) : (s.done).op = s.op := rfl
@[simp] theorem State.done_argReg (s : State) : (s.done).argReg = s.argReg := rfl
@[simp] theorem State.done_argVal (s : State) : (s.done).argVal = s.argVal := rfl
@[simp] theorem State.done_busy (s : State) : (s.done).busy = false := rfl
@[simp] theorem State.done_ok (s : State) : (s.done).ok = true := rfl
@[simp] theorem State.done_err (s : State) : (s.done).err = .none := rfl
@[simp] theorem State.done_istate (s : State) : (s.done).istate = s.istate := rfl
@[simp] theorem State.done_var (s : State) : (s.done).var = s.var := rfl
@[simp] theorem State.done_t (s : State) : (s.done).t = s.t := rfl
@[simp] theorem State.done_id0 (s : State) : (s.done).id0 = s.id0 := rfl
@[simp] theorem State.done_id1 (s : State) : (s.done).id1 = s.id1 := rfl
@[simp] theorem State.done_a (s : State) : (s.done).a = s.a := rfl
@[simp] theorem State.done_b (s : State) : (s.done).b = s.b := rfl
@[simp] theorem State.done_c1 (s : State) : (s.done).c1 = s.c1 := rfl
@[simp] theorem State.done_c2 (s : State) : (s.done).c2 = s.c2 := rfl
@[simp] theorem State.done_iter (s : State) : (s.done).iter = s.iter := rfl
@[simp] theorem State.done_n (s : State) : (s.done).n = s.n := rfl
@[simp] theorem State.done_idx (s : State) : (s.done).idx = s.idx := rfl
@[simp] theorem State.done_rdata (s : State) : (s.done).rdata = s.rdata := rfl
@[simp] theorem State.done_dx (s : State) : (s.done).dx = s.dx := rfl
@[simp] theorem State.done_dy (s : State) : (s.done).dy = s.dy := rfl
@[simp] theorem State.done_pixcnt (s : State) : (s.done).pixcnt = s.pixcnt := rfl
@[simp] theorem State.done_upc (s : State) : (s.done).upc = .idle := rfl
@[simp] theorem State.done_csl (s : State) : (s.done).csl = s.csl := rfl
@[simp] theorem State.done_session (s : State) : (s.done).session = s.session := rfl
@[simp] theorem State.done_link (s : State) : (s.done).link = s.link := rfl
@[simp] theorem State.done_rx (s : State) : (s.done).rx = s.rx := rfl
@[simp] theorem State.done_polls (s : State) : (s.done).polls = s.polls := rfl
@[simp] theorem State.done_written (s : State) : (s.done).written = s.written := rfl
@[simp] theorem State.done_fb (s : State) : (s.done).fb = s.fb := rfl
@[simp] theorem State.done_replies (s : State) : (s.done).replies = s.replies := rfl
@[simp] theorem State.done_xfers (s : State) : (s.done).xfers = s.xfers := rfl
@[simp] theorem State.done_cmdIn (s : State) : (s.done).cmdIn = s.cmdIn := rfl
@[simp] theorem State.done_rstIn (s : State) : (s.done).rstIn = s.rstIn := rfl
@[simp] theorem State.done_cfg (s : State) : (s.done).cfg = s.cfg := rfl
@[simp] theorem State.done_trace (s : State) : (s.done).trace = s.trace := rfl

/-! ## raiseFailed -/

@[simp] theorem State.raiseFailed_op (c : ErrCode) (s : State) : (s.raiseFailed c).op = s.op := rfl
@[simp] theorem State.raiseFailed_argReg (c : ErrCode) (s : State) : (s.raiseFailed c).argReg = s.argReg := rfl
@[simp] theorem State.raiseFailed_argVal (c : ErrCode) (s : State) : (s.raiseFailed c).argVal = s.argVal := rfl
@[simp] theorem State.raiseFailed_busy (c : ErrCode) (s : State) : (s.raiseFailed c).busy = false := rfl
@[simp] theorem State.raiseFailed_ok (c : ErrCode) (s : State) : (s.raiseFailed c).ok = false := rfl
@[simp] theorem State.raiseFailed_err (c : ErrCode) (s : State) : (s.raiseFailed c).err = c := rfl
@[simp] theorem State.raiseFailed_istate (c : ErrCode) (s : State) : (s.raiseFailed c).istate = s.istate := rfl
@[simp] theorem State.raiseFailed_var (c : ErrCode) (s : State) : (s.raiseFailed c).var = s.var := rfl
@[simp] theorem State.raiseFailed_t (c : ErrCode) (s : State) : (s.raiseFailed c).t = s.t := rfl
@[simp] theorem State.raiseFailed_id0 (c : ErrCode) (s : State) : (s.raiseFailed c).id0 = s.id0 := rfl
@[simp] theorem State.raiseFailed_id1 (c : ErrCode) (s : State) : (s.raiseFailed c).id1 = s.id1 := rfl
@[simp] theorem State.raiseFailed_a (c : ErrCode) (s : State) : (s.raiseFailed c).a = s.a := rfl
@[simp] theorem State.raiseFailed_b (c : ErrCode) (s : State) : (s.raiseFailed c).b = s.b := rfl
@[simp] theorem State.raiseFailed_c1 (c : ErrCode) (s : State) : (s.raiseFailed c).c1 = s.c1 := rfl
@[simp] theorem State.raiseFailed_c2 (c : ErrCode) (s : State) : (s.raiseFailed c).c2 = s.c2 := rfl
@[simp] theorem State.raiseFailed_iter (c : ErrCode) (s : State) : (s.raiseFailed c).iter = s.iter := rfl
@[simp] theorem State.raiseFailed_n (c : ErrCode) (s : State) : (s.raiseFailed c).n = s.n := rfl
@[simp] theorem State.raiseFailed_idx (c : ErrCode) (s : State) : (s.raiseFailed c).idx = s.idx := rfl
@[simp] theorem State.raiseFailed_rdata (c : ErrCode) (s : State) : (s.raiseFailed c).rdata = s.rdata := rfl
@[simp] theorem State.raiseFailed_dx (c : ErrCode) (s : State) : (s.raiseFailed c).dx = s.dx := rfl
@[simp] theorem State.raiseFailed_dy (c : ErrCode) (s : State) : (s.raiseFailed c).dy = s.dy := rfl
@[simp] theorem State.raiseFailed_pixcnt (c : ErrCode) (s : State) : (s.raiseFailed c).pixcnt = s.pixcnt := rfl
@[simp] theorem State.raiseFailed_upc (c : ErrCode) (s : State) : (s.raiseFailed c).upc = .idle := rfl
@[simp] theorem State.raiseFailed_csl (c : ErrCode) (s : State) : (s.raiseFailed c).csl = s.csl := rfl
@[simp] theorem State.raiseFailed_session (c : ErrCode) (s : State) : (s.raiseFailed c).session = s.session := rfl
@[simp] theorem State.raiseFailed_link (c : ErrCode) (s : State) : (s.raiseFailed c).link = s.link := rfl
@[simp] theorem State.raiseFailed_rx (c : ErrCode) (s : State) : (s.raiseFailed c).rx = s.rx := rfl
@[simp] theorem State.raiseFailed_polls (c : ErrCode) (s : State) : (s.raiseFailed c).polls = s.polls := rfl
@[simp] theorem State.raiseFailed_written (c : ErrCode) (s : State) : (s.raiseFailed c).written = s.written := rfl
@[simp] theorem State.raiseFailed_fb (c : ErrCode) (s : State) : (s.raiseFailed c).fb = s.fb := rfl
@[simp] theorem State.raiseFailed_replies (c : ErrCode) (s : State) : (s.raiseFailed c).replies = s.replies := rfl
@[simp] theorem State.raiseFailed_xfers (c : ErrCode) (s : State) : (s.raiseFailed c).xfers = s.xfers := rfl
@[simp] theorem State.raiseFailed_cmdIn (c : ErrCode) (s : State) : (s.raiseFailed c).cmdIn = s.cmdIn := rfl
@[simp] theorem State.raiseFailed_rstIn (c : ErrCode) (s : State) : (s.raiseFailed c).rstIn = s.rstIn := rfl
@[simp] theorem State.raiseFailed_cfg (c : ErrCode) (s : State) : (s.raiseFailed c).cfg = s.cfg := rfl
@[simp] theorem State.raiseFailed_trace (c : ErrCode) (s : State) : (s.raiseFailed c).trace = s.trace := rfl

/-! ## initFailed -/

@[simp] theorem State.initFailed_op (c : ErrCode) (s : State) : (s.initFailed c).op = s.op := rfl
@[simp] theorem State.initFailed_argReg (c : ErrCode) (s : State) : (s.initFailed c).argReg = s.argReg := rfl
@[simp] theorem State.initFailed_argVal (c : ErrCode) (s : State) : (s.initFailed c).argVal = s.argVal := rfl
@[simp] theorem State.initFailed_busy (c : ErrCode) (s : State) : (s.initFailed c).busy = false := rfl
@[simp] theorem State.initFailed_ok (c : ErrCode) (s : State) : (s.initFailed c).ok = false := rfl
@[simp] theorem State.initFailed_err (c : ErrCode) (s : State) : (s.initFailed c).err = c := rfl
@[simp] theorem State.initFailed_istate (c : ErrCode) (s : State) : (s.initFailed c).istate = .failed := rfl
@[simp] theorem State.initFailed_var (c : ErrCode) (s : State) : (s.initFailed c).var = s.var := rfl
@[simp] theorem State.initFailed_t (c : ErrCode) (s : State) : (s.initFailed c).t = s.t := rfl
@[simp] theorem State.initFailed_id0 (c : ErrCode) (s : State) : (s.initFailed c).id0 = s.id0 := rfl
@[simp] theorem State.initFailed_id1 (c : ErrCode) (s : State) : (s.initFailed c).id1 = s.id1 := rfl
@[simp] theorem State.initFailed_a (c : ErrCode) (s : State) : (s.initFailed c).a = s.a := rfl
@[simp] theorem State.initFailed_b (c : ErrCode) (s : State) : (s.initFailed c).b = s.b := rfl
@[simp] theorem State.initFailed_c1 (c : ErrCode) (s : State) : (s.initFailed c).c1 = s.c1 := rfl
@[simp] theorem State.initFailed_c2 (c : ErrCode) (s : State) : (s.initFailed c).c2 = s.c2 := rfl
@[simp] theorem State.initFailed_iter (c : ErrCode) (s : State) : (s.initFailed c).iter = s.iter := rfl
@[simp] theorem State.initFailed_n (c : ErrCode) (s : State) : (s.initFailed c).n = s.n := rfl
@[simp] theorem State.initFailed_idx (c : ErrCode) (s : State) : (s.initFailed c).idx = s.idx := rfl
@[simp] theorem State.initFailed_rdata (c : ErrCode) (s : State) : (s.initFailed c).rdata = s.rdata := rfl
@[simp] theorem State.initFailed_dx (c : ErrCode) (s : State) : (s.initFailed c).dx = s.dx := rfl
@[simp] theorem State.initFailed_dy (c : ErrCode) (s : State) : (s.initFailed c).dy = s.dy := rfl
@[simp] theorem State.initFailed_pixcnt (c : ErrCode) (s : State) : (s.initFailed c).pixcnt = s.pixcnt := rfl
@[simp] theorem State.initFailed_upc (c : ErrCode) (s : State) : (s.initFailed c).upc = .idle := rfl
@[simp] theorem State.initFailed_csl (c : ErrCode) (s : State) : (s.initFailed c).csl = s.csl := rfl
@[simp] theorem State.initFailed_session (c : ErrCode) (s : State) : (s.initFailed c).session = s.session := rfl
@[simp] theorem State.initFailed_link (c : ErrCode) (s : State) : (s.initFailed c).link = s.link := rfl
@[simp] theorem State.initFailed_rx (c : ErrCode) (s : State) : (s.initFailed c).rx = s.rx := rfl
@[simp] theorem State.initFailed_polls (c : ErrCode) (s : State) : (s.initFailed c).polls = s.polls := rfl
@[simp] theorem State.initFailed_written (c : ErrCode) (s : State) : (s.initFailed c).written = s.written := rfl
@[simp] theorem State.initFailed_fb (c : ErrCode) (s : State) : (s.initFailed c).fb = s.fb := rfl
@[simp] theorem State.initFailed_replies (c : ErrCode) (s : State) : (s.initFailed c).replies = s.replies := rfl
@[simp] theorem State.initFailed_xfers (c : ErrCode) (s : State) : (s.initFailed c).xfers = s.xfers := rfl
@[simp] theorem State.initFailed_cmdIn (c : ErrCode) (s : State) : (s.initFailed c).cmdIn = s.cmdIn := rfl
@[simp] theorem State.initFailed_rstIn (c : ErrCode) (s : State) : (s.initFailed c).rstIn = s.rstIn := rfl
@[simp] theorem State.initFailed_cfg (c : ErrCode) (s : State) : (s.initFailed c).cfg = s.cfg := rfl
@[simp] theorem State.initFailed_trace (c : ErrCode) (s : State) : (s.initFailed c).trace = s.trace := rfl

/-! ## engineReset -/

@[simp] theorem State.engineReset_op (s : State) : (s.engineReset).op = s.op := rfl
@[simp] theorem State.engineReset_argReg (s : State) : (s.engineReset).argReg = s.argReg := rfl
@[simp] theorem State.engineReset_argVal (s : State) : (s.engineReset).argVal = s.argVal := rfl
@[simp] theorem State.engineReset_busy (s : State) : (s.engineReset).busy = false := rfl
@[simp] theorem State.engineReset_ok (s : State) : (s.engineReset).ok = false := rfl
@[simp] theorem State.engineReset_err (s : State) : (s.engineReset).err = .none := rfl
@[simp] theorem State.engineReset_istate (s : State) : (s.engineReset).istate = .uninit := rfl
@[simp] theorem State.engineReset_var (s : State) : (s.engineReset).var = s.var := rfl
@[simp] theorem State.engineReset_t (s : State) : (s.engineReset).t = s.t := rfl
@[simp] theorem State.engineReset_id0 (s : State) : (s.engineReset).id0 = s.id0 := rfl
@[simp] theorem State.engineReset_id1 (s : State) : (s.engineReset).id1 = s.id1 := rfl
@[simp] theorem State.engineReset_a (s : State) : (s.engineReset).a = s.a := rfl
@[simp] theorem State.engineReset_b (s : State) : (s.engineReset).b = s.b := rfl
@[simp] theorem State.engineReset_c1 (s : State) : (s.engineReset).c1 = s.c1 := rfl
@[simp] theorem State.engineReset_c2 (s : State) : (s.engineReset).c2 = s.c2 := rfl
@[simp] theorem State.engineReset_iter (s : State) : (s.engineReset).iter = s.iter := rfl
@[simp] theorem State.engineReset_n (s : State) : (s.engineReset).n = s.n := rfl
@[simp] theorem State.engineReset_idx (s : State) : (s.engineReset).idx = s.idx := rfl
@[simp] theorem State.engineReset_rdata (s : State) : (s.engineReset).rdata = s.rdata := rfl
@[simp] theorem State.engineReset_dx (s : State) : (s.engineReset).dx = s.dx := rfl
@[simp] theorem State.engineReset_dy (s : State) : (s.engineReset).dy = s.dy := rfl
@[simp] theorem State.engineReset_pixcnt (s : State) : (s.engineReset).pixcnt = s.pixcnt := rfl
@[simp] theorem State.engineReset_upc (s : State) : (s.engineReset).upc = .idle := rfl
@[simp] theorem State.engineReset_csl (s : State) : (s.engineReset).csl = .deasserted := rfl
@[simp] theorem State.engineReset_session (s : State) : (s.engineReset).session = false := rfl
@[simp] theorem State.engineReset_link (s : State) : (s.engineReset).link = .idle := rfl
@[simp] theorem State.engineReset_rx (s : State) : (s.engineReset).rx = s.rx := rfl
@[simp] theorem State.engineReset_polls (s : State) : (s.engineReset).polls = s.polls := rfl
@[simp] theorem State.engineReset_written (s : State) : (s.engineReset).written = { rdata := false, motion := false, pixcnt := false } := rfl
@[simp] theorem State.engineReset_fb (s : State) : (s.engineReset).fb = s.fb := rfl
@[simp] theorem State.engineReset_replies (s : State) : (s.engineReset).replies = s.replies := rfl
@[simp] theorem State.engineReset_xfers (s : State) : (s.engineReset).xfers = s.xfers := rfl
@[simp] theorem State.engineReset_cmdIn (s : State) : (s.engineReset).cmdIn = s.cmdIn := rfl
@[simp] theorem State.engineReset_rstIn (s : State) : (s.engineReset).rstIn = s.rstIn := rfl
@[simp] theorem State.engineReset_cfg (s : State) : (s.engineReset).cfg = s.cfg := rfl
@[simp] theorem State.engineReset_trace (s : State) : (s.engineReset).trace = s.resetEvents ++ s.trace := rfl

/-! ## clock -/

@[simp] theorem State.clock_op (s : State) : (s.clock).op = s.op := rfl
@[simp] theorem State.clock_argReg (s : State) : (s.clock).argReg = s.argReg := rfl
@[simp] theorem State.clock_argVal (s : State) : (s.clock).argVal = s.argVal := rfl
@[simp] theorem State.clock_busy (s : State) : (s.clock).busy = s.busy := rfl
@[simp] theorem State.clock_ok (s : State) : (s.clock).ok = s.ok := rfl
@[simp] theorem State.clock_err (s : State) : (s.clock).err = s.err := rfl
@[simp] theorem State.clock_istate (s : State) : (s.clock).istate = s.istate := rfl
@[simp] theorem State.clock_var (s : State) : (s.clock).var = s.var := rfl
@[simp] theorem State.clock_t (s : State) : (s.clock).t = s.t := rfl
@[simp] theorem State.clock_id0 (s : State) : (s.clock).id0 = s.id0 := rfl
@[simp] theorem State.clock_id1 (s : State) : (s.clock).id1 = s.id1 := rfl
@[simp] theorem State.clock_a (s : State) : (s.clock).a = s.a := rfl
@[simp] theorem State.clock_b (s : State) : (s.clock).b = s.b := rfl
@[simp] theorem State.clock_c1 (s : State) : (s.clock).c1 = s.c1 := rfl
@[simp] theorem State.clock_c2 (s : State) : (s.clock).c2 = s.c2 := rfl
@[simp] theorem State.clock_iter (s : State) : (s.clock).iter = s.iter := rfl
@[simp] theorem State.clock_n (s : State) : (s.clock).n = s.n := rfl
@[simp] theorem State.clock_idx (s : State) : (s.clock).idx = s.idx := rfl
@[simp] theorem State.clock_rdata (s : State) : (s.clock).rdata = s.rdata := rfl
@[simp] theorem State.clock_dx (s : State) : (s.clock).dx = s.dx := rfl
@[simp] theorem State.clock_dy (s : State) : (s.clock).dy = s.dy := rfl
@[simp] theorem State.clock_pixcnt (s : State) : (s.clock).pixcnt = s.pixcnt := rfl
@[simp] theorem State.clock_upc (s : State) : (s.clock).upc = s.upc := rfl
@[simp] theorem State.clock_csl (s : State) : (s.clock).csl = s.csl := rfl
@[simp] theorem State.clock_session (s : State) : (s.clock).session = s.session := rfl
@[simp] theorem State.clock_link (s : State) : (s.clock).link = s.link := rfl
@[simp] theorem State.clock_rx (s : State) : (s.clock).rx = s.rx := rfl
@[simp] theorem State.clock_polls (s : State) : (s.clock).polls = s.polls := rfl
@[simp] theorem State.clock_written (s : State) : (s.clock).written = s.written := rfl
@[simp] theorem State.clock_fb (s : State) : (s.clock).fb = s.fb := rfl
@[simp] theorem State.clock_replies (s : State) : (s.clock).replies = s.replies := rfl
@[simp] theorem State.clock_xfers (s : State) : (s.clock).xfers = s.xfers := rfl
@[simp] theorem State.clock_cmdIn (s : State) : (s.clock).cmdIn = s.cmdIn := rfl
@[simp] theorem State.clock_rstIn (s : State) : (s.clock).rstIn = s.rstIn.tail := rfl
@[simp] theorem State.clock_cfg (s : State) : (s.clock).cfg = s.cfg := rfl
@[simp] theorem State.clock_trace (s : State) : (s.clock).trace = s.trace := rfl

end Sys2Proof.Machine
end

