-- ==== Sys2Proof/Laws/Ops.lean ====
section
/-! SUPPORT. What each shared operation can do, said once: if it answers a next state, then one of these cases. -/

namespace Sys2Proof.Machine

/-- `WR` answers a next state in two cases: it starts its transaction, or it ends. -/
theorem wr_next {reg val : Byte} {l : Label} {s t : State} (h : wr reg val l s = .next t) :
    (s.link = .idle ∧ t = { s with link := .carrying (writeFrame reg val) 0 }) ∨
    (s.link = .ended ∧ t = { s with link := .idle, upc := l }) := by
  unfold wr at h
  cases hl : s.link with
  | idle => rw [hl] at h; cases h; exact .inl ⟨rfl, rfl⟩
  | ended => rw [hl] at h; cases h; exact .inr ⟨rfl, rfl⟩
  | carrying f k => rw [hl] at h; cases h

/-- `RD` answers a next state in two cases: it starts its transaction, or it stores the reply and ends. -/
theorem rd_next {reg : Byte} {store : Byte → State → State} {l : Label} {s t : State}
    (h : rd reg store l s = .next t) :
    (s.link = .idle ∧ t = { s with link := .carrying (readFrame reg) 0 }) ∨
    (s.link = .ended ∧ t = { store s.rx s with link := .idle, upc := l }) := by
  unfold rd at h
  cases hl : s.link with
  | idle => rw [hl] at h; cases h; exact .inl ⟨rfl, rfl⟩
  | ended => rw [hl] at h; cases h; exact .inr ⟨rfl, rfl⟩
  | carrying f k => rw [hl] at h; cases h

/-- A wait answers one next state. -/
theorem wait_next {us : Nat} {l : Label} {s t : State} (h : wait us l s = .next t) :
    t = (s.emit (.dly us)).goto l := by cases h; rfl

/-- A pulse edge answers one next state. -/
theorem pulse_next {v l} {s t : State} (h : pulse v l s = .next t) : t = (s.driveCs v).goto l := by cases h; rfl

/-- A pixel is stored inside the buffer or not at all. -/
theorem storePixel_next {v : Byte} {l : Label} {s t : State} (h : storePixel v l s = .next t) :
    s.n.toNat < Config.framePixels ∧
    t = State.goto l (State.emit (.fbw s.n.toNat v) { s with fb := Memory.write s.fb s.n.toNat v }) := by
  unfold storePixel at h
  split at h
  · rename_i hn; cases h; exact ⟨hn, rfl⟩
  · cases h

/-- A frame is carried by exactly one operation of its transaction. -/
theorem carryFrame_next {f : Frame} {ops : List BusOp} {s t : State} (h : carryFrame f ops s = .next t) :
    ∃ op, ops[s.position]? = some op ∧
      t = { s.busOp op with link := linkAfter f s.position ops.length s.busy } := by
  unfold carryFrame at h
  split at h
  · rename_i op hop; cases h; exact ⟨op, hop, rfl⟩
  · cases h

/-- One operation of a transaction emits exactly one event. -/
theorem busOp_trace (op : BusOp) (s : State) : ∃ e, (s.busOp op).trace = e :: s.trace := by
  cases op <;> exact ⟨_, rfl⟩

/-- A finite bound ends the command, else the loop goes round. -/
theorem pollAgain_cases (l : Label) (s : State) :
    (pollExhausted s.cfg.pollLimit s.polls = true ∧ s.pollAgain l = s.raiseFailed .pollLimit) ∨
    (pollExhausted s.cfg.pollLimit s.polls = false ∧ s.pollAgain l = s.goto l) := by
  unfold State.pollAgain
  cases h : pollExhausted s.cfg.pollLimit s.polls
  · exact .inr ⟨rfl, by simp⟩
  · exact .inl ⟨rfl, by simp⟩

/-! ## What one step does -/

/-- Reset overrides everything. -/
theorem step_of_rst {s : State} (hr : s.rstNow = true) : step s = .next s.clock.engineReset := by
  simp [step, hr]

/-- A frame on the link goes one event further. -/
theorem step_of_carrying {s : State} {f : Frame} {k : Nat} (hr : s.rstNow = false) (hl : s.link = .carrying f k) :
    step s = runFrame f s.clock := by
  simp [step, hr, advance, hl]

/-- A running command goes one micro-step further while no frame is on the link. -/
theorem step_of_busy {s : State} (hr : s.rstNow = false) (hl : ∀ f k, s.link ≠ .carrying f k) (hb : s.busy = true) :
    step s = runCommand s.clock := by
  cases h : s.link with
  | carrying f k => exact absurd h (hl f k)
  | idle => simp [step, hr, advance, h, hb]
  | ended => simp [step, hr, advance, h, hb]

/-- An idle engine looks at its command port. -/
theorem step_of_idle {s : State} (hr : s.rstNow = false) (hl : ∀ f k, s.link ≠ .carrying f k) (hb : s.busy = false) :
    step s = pollPort s.clock := by
  cases h : s.link with
  | carrying f k => exact absurd h (hl f k)
  | idle => simp [step, hr, advance, h, hb]
  | ended => simp [step, hr, advance, h, hb]

/-- Everything one step can do: reset, a frame one event further, a running command one micro-step further, or a look at
the command port. -/
theorem step_cases (s : State) :
    (s.rstNow = true ∧ step s = .next s.clock.engineReset) ∨
    (s.rstNow = false ∧ ∃ f k, s.link = .carrying f k ∧ step s = runFrame f s.clock) ∨
    (s.rstNow = false ∧ (∀ f k, s.link ≠ .carrying f k) ∧ s.busy = true ∧ step s = runCommand s.clock) ∨
    (s.rstNow = false ∧ (∀ f k, s.link ≠ .carrying f k) ∧ s.busy = false ∧ step s = pollPort s.clock) := by
  cases hr : s.rstNow with
  | true => exact .inl ⟨rfl, step_of_rst hr⟩
  | false =>
    by_cases hl : ∃ f k, s.link = .carrying f k
    · obtain ⟨f, k, hl⟩ := hl
      exact .inr (.inl ⟨rfl, f, k, hl, step_of_carrying hr hl⟩)
    · have hl' : ∀ f k, s.link ≠ .carrying f k := fun f k h => hl ⟨f, k, h⟩
      cases hb : s.busy with
      | true => exact .inr (.inr (.inl ⟨rfl, hl', rfl, step_of_busy hr hl' hb⟩))
      | false => exact .inr (.inr (.inr ⟨rfl, hl', rfl, step_of_idle hr hl' hb⟩))

end Sys2Proof.Machine
end

