-- ==== Sys2Proof/Laws/PerInstr.lean ====
section
/-! SUPPORT. What holds of every instruction as syntax, one lemma per constructor: its word is one of its row of
spec/opcode_table.json. -/

namespace Sys2Proof

/-- The row's `match` and `mask` in spec/opcode_table.json. -/
def tableRow (i : Instr) : Nat × Nat :=
  match i with
  | .regWrite _ _ => (0x010000, 0xFF0000)
  | .regRead _ => (0x020000, 0xFF0000)
  | .init _ => (0x030000, 0xFF0000)
  | .readMotion => (0x040000, 0xFF0000)
  | .frameEnable => (0x050000, 0xFF0000)
  | .frameStream => (0x060000, 0xFF0000)
  | .frameRead => (0x070000, 0xFF0000)
  | .setLed _ => (0x080000, 0xFF0000)
  | .wframe _ _ => (0x8000, 0x8000)
  | .rframe _ => (0x0000, 0x80FF)

/-- The instruction's canonical word, under the row's mask, is the row's match. -/
def Laws.TableRow.Statement (i : Instr) : Prop :=
  match encode i with
  | .command w => w &&& BitVec.ofNat 24 (tableRow i).2 = BitVec.ofNat 24 (tableRow i).1
  | .frame f => f &&& BitVec.ofNat 16 (tableRow i).2 = BitVec.ofNat 16 (tableRow i).1

/-- Under the command mask only the opcode is left. -/
theorem cmdWord_and_mask (op reg val : Byte) : cmdWord op reg val &&& 0xFF0000#24 = op.setWidth 24 <<< 16 := by
  apply BitVec.eq_of_getLsbD_eq
  intro i hi
  interval_cases i <;> simp [cmdWord]

theorem Laws.TableRow.regWrite (reg val : Byte) : Laws.TableRow.Statement (.regWrite reg val) :=
  cmdWord_and_mask _ _ _

theorem Laws.TableRow.regRead (reg : Byte) : Laws.TableRow.Statement (.regRead reg) := cmdWord_and_mask _ _ _

theorem Laws.TableRow.init (variant : Byte) : Laws.TableRow.Statement (.init variant) := cmdWord_and_mask _ _ _

theorem Laws.TableRow.readMotion : Laws.TableRow.Statement .readMotion := cmdWord_and_mask _ _ _

theorem Laws.TableRow.frameEnable : Laws.TableRow.Statement .frameEnable := cmdWord_and_mask _ _ _

theorem Laws.TableRow.frameStream : Laws.TableRow.Statement .frameStream := cmdWord_and_mask _ _ _

theorem Laws.TableRow.frameRead : Laws.TableRow.Statement .frameRead := cmdWord_and_mask _ _ _

theorem Laws.TableRow.setLed (on : Bool) : Laws.TableRow.Statement (.setLed on) := cmdWord_and_mask _ _ _

theorem Laws.TableRow.wframe (reg : RegAddr) (val : Byte) : Laws.TableRow.Statement (.wframe reg val) := by
  show wframeBits reg val &&& 0x8000#16 = 0x8000#16
  apply BitVec.eq_of_getLsbD_eq
  intro i hi
  interval_cases i <;> simp [wframeBits, joinBytes]

theorem Laws.TableRow.rframe (reg : RegAddr) : Laws.TableRow.Statement (.rframe reg) := by
  show rframeBits reg &&& 0x80FF#16 = 0x0000#16
  apply BitVec.eq_of_getLsbD_eq
  intro i hi
  interval_cases i <;> simp [rframeBits, joinBytes]

end Sys2Proof
end

