-- ==== Sys2Proof/Laws/Run.lean ====
section
/-! SUPPORT. Runs of several steps, a step while `rst` is quiet, and the frames the engine forms. -/

namespace Sys2Proof.Machine

/-! ## Runs -/

/-- A run is the host interface's run of this machine. -/
theorem run_eq_core_run (k : Nat) (s : State) : run k s = Sys2Proof.core.run k s := by
  induction k generalizing s with
  | zero => rfl
  | succ k ih =>
    have hc : Sys2Proof.core.step s = step s := rfl
    cases hs : step s with
    | next t =>
      rw [hs] at hc
      simp only [run, Host.Core.run, hs, hc]
      exact ih t
    | fault r => rw [hs] at hc; simp only [run, Host.Core.run, hs, hc]; rfl
    | refused r => rw [hs] at hc; simp only [run, Host.Core.run, hs, hc]; rfl

/-- A run goes on from where its first part ends. -/
theorem run_add {m : Nat} (k : Nat) {s t : State} (h : run m s = .next t) : run (m + k) s = run k t := by
  induction m generalizing s with
  | zero => simp only [run, Host.Outcome.next.injEq] at h; rw [h, Nat.zero_add]
  | succ m ih =>
    rw [Nat.add_right_comm]
    simp only [run] at h ⊢
    cases hs : step s with
    | next u => rw [hs] at h; exact ih h
    | fault r => rw [hs] at h; cases h
    | refused r => rw [hs] at h; cases h

theorem run_one {s t : State} (h : step s = .next t) : run 1 s = .next t := by simp [run, h]

/-! ## One step while `rst` is quiet -/

theorem rstNow_of_quiet {s : State} (h : s.rstIn = []) : s.rstNow = false := by simp [State.rstNow, h]

theorem clock_of_quiet {s : State} (h : s.rstIn = []) : s.clock = s := by
  cases s; simp only at h; subst h; rfl

/-- A running command between two transactions, or at the end of one, goes one micro-step further. -/
theorem step_of_command {s : State} {i : Instr} (hr : s.rstIn = []) (hb : s.busy = true)
    (hl : s.link = .idle ∨ s.link = .ended) (hd : decodeCommand s.latched = .ok i) : step s = exec i s := by
  rw [step_of_busy (rstNow_of_quiet hr) (by rcases hl with h | h <;> simp [h]) hb, clock_of_quiet hr]
  simp [runCommand, hd]

/-- A write frame of the engine goes one event further. -/
theorem step_of_writeFrame {s : State} {r v : Byte} {k : Nat} (hr : s.rstIn = [])
    (hl : s.link = .carrying (writeFrame r v) k) : step s = exec (.wframe (r.setWidth 7) v) s := by
  rw [step_of_carrying (rstNow_of_quiet hr) hl, clock_of_quiet hr]
  simp [runFrame]

/-- A read frame of the engine goes one event further. -/
theorem step_of_readFrame {s : State} {r : Byte} {k : Nat} (hr : s.rstIn = [])
    (hl : s.link = .carrying (readFrame r) k) : step s = exec (.rframe (r.setWidth 7)) s := by
  rw [step_of_carrying (rstNow_of_quiet hr) hl, clock_of_quiet hr]
  simp [runFrame]

/-! ## Address bytes and frames -/

@[simp] theorem writeAddr_regByte (r : Byte) : writeAddr (regByte (r.setWidth 7)) = 0x80#8 ||| r := by
  revert r; decide

@[simp] theorem readAddr_regByte (r : Byte) : readAddr (regByte (r.setWidth 7)) = r &&& 0x7F#8 := by
  revert r; decide

@[simp] theorem wframeBits_setWidth (r v : Byte) : wframeBits (r.setWidth 7) v = writeFrame r v := by
  have h : 0x80#8 ||| (r.setWidth 7).setWidth 8 = 0x80#8 ||| r := writeAddr_regByte r
  simp only [wframeBits, writeFrame, writeAddr, h]

@[simp] theorem rframeBits_setWidth (r : Byte) : rframeBits (r.setWidth 7) = readFrame r := by
  have h : (r.setWidth 7).setWidth 8 = r &&& 0x7F#8 := by revert r; decide
  simp only [rframeBits, readFrame, readAddr, h]

/-- What the decoder of frames answers: one of the two wire frames, read from the word's fields, or an error. -/
theorem decodeFrame_cases {f : Frame} {i : Instr} (h : decodeFrame f = .ok i) :
    i = .wframe (frameReg f) (frameSecond f) ∨ (i = .rframe (frameReg f) ∧ frameSecond f = 0x00#8) := by
  unfold decodeFrame at h
  split at h
  · cases h; exact .inl rfl
  · split at h
    · rename_i h0; cases h; exact .inr ⟨rfl, h0⟩
    · cases h

/-! ## Branch conditions by value -/

/-- The ready gate polls again on a reply of 0xC0 to 0xFF (44_frame.md R231). -/
theorem gateBusy_eq (t : Byte) : gateBusy t = decide (0xC0 ≤ t.toNat) := by revert t; decide

/-- The clamp by value: the lower bound 0 is never reached (42_init.md R181). -/
theorem c1Clamp_eq (c : BitVec 9) : c1Clamp c = if c.toNat ≤ 63 then c else 63#9 := by revert c; decide

/-- The opcodes that name a command (30_encoding.md R107, R109). -/
theorem firstLabel_cases (op : Byte) :
    op = 0x01#8 ∨ op = 0x02#8 ∨ op = 0x03#8 ∨ op = 0x04#8 ∨ op = 0x05#8 ∨ op = 0x06#8 ∨ op = 0x07#8 ∨ op = 0x08#8 ∨
      firstLabel op = none := by revert op; decide

end Sys2Proof.Machine
end

