-- ==== Sys2Proof/Machine/Written.lean ====
section
/-! DEFINITION. The written syntax of commands and primitives (30_encoding.md R118) and the pseudo-commands (R119). No step
uses it. -/

namespace Sys2Proof.Machine

/-- One hexadecimal digit. -/
def hexDigit (n : Nat) : Char :=
  match n with
  | 0 => '0' | 1 => '1' | 2 => '2' | 3 => '3' | 4 => '4' | 5 => '5' | 6 => '6' | 7 => '7'
  | 8 => '8' | 9 => '9' | 10 => 'A' | 11 => 'B' | 12 => 'C' | 13 => 'D' | 14 => 'E' | _ => 'F'

/-- A hexadecimal literal of a byte, `0x..` (00_scope.md R9). -/
def hexByte (v : Byte) : List Char := ['0', 'x', hexDigit (v.toNat / 16), hexDigit (v.toNat % 16)]

/-- A variant code as INIT's operand: `A`, `B`, or the raw code. -/
def writtenVariant (code : Byte) : List Char :=
  match variantOf code with
  | some .variantA => ['A']
  | some .variantB => ['B']
  | none => hexByte code

/-- An instruction as it is written: the mnemonic, then its used operands; a wire frame as the primitive that sends it. -/
def written (i : Instr) : List Char :=
  match i with
  | .regWrite reg val => "REG_WRITE ".toList ++ hexByte reg ++ ", ".toList ++ hexByte val
  | .regRead reg => "REG_READ ".toList ++ hexByte reg
  | .init variant => "INIT ".toList ++ writtenVariant variant
  | .readMotion => "READ_MOTION".toList
  | .frameEnable => "FRAME_ENABLE".toList
  | .frameStream => "FRAME_STREAM".toList
  | .frameRead => "FRAME_READ".toList
  | .setLed on => "SET_LED ".toList ++ [if on then '1' else '0']
  | .wframe reg val => "WR(".toList ++ hexByte (regByte reg) ++ ", ".toList ++ hexByte val ++ [')']
  | .rframe reg => "RD(".toList ++ hexByte (regByte reg) ++ [')']

/-- `LED_ON` is `SET_LED 1` (R119). -/
def ledOn : Instr := .setLed true

/-- `LED_OFF` is `SET_LED 0` (R119). -/
def ledOff : Instr := .setLed false

end Sys2Proof.Machine
end

