-- ==== Sys2Proof/Tests/Slice0.lean ====
section
/-! SUPPORT. The model's own tests: well-formedness, words of the spec written out, single steps with results from the
spec's vectors (95_test_vectors.md), and for each statement with hypotheses a state that meets them. -/

namespace Sys2Proof.Tests

open Sys2Proof.Machine

/-! ## Well-formedness: one ill-formed term for each check -/

theorem test_wf_accepts :
    (Instr.regWrite 0x7F#8 0xFF#8).wellFormed = true ∧ (Instr.regRead 0x00#8).wellFormed = true ∧
    (Instr.init 0xFF#8).wellFormed = true ∧ (Instr.wframe 0x7F#7 0xFF#8).wellFormed = true := by decide

theorem test_wf_refuses_write_operand_bit7 : (Instr.regWrite 0xBA#8 0x5A#8).wellFormed = false := by decide

theorem test_wf_refuses_read_operand_bit7 : (Instr.regRead 0x80#8).wellFormed = false := by decide

/-- The synthetic lists of 95_test_vectors.md, section 1.3. -/
def params : Params :=
  { bulkA := { before := [⟨0x7F#7, 0x00#8⟩], after := [⟨0x40#7, 0x41#8⟩] }
    bulkB := { before := [⟨0x7F#7, 0x01#8⟩, ⟨0x41#7, 0x42#8⟩], after := [] }
    frameEnableSeq := #v[⟨0x10#7, 0xA0#8⟩, ⟨0x11#7, 0xA1#8⟩, ⟨0x12#7, 0xA2#8⟩, ⟨0x13#7, 0xA3#8⟩, ⟨0x14#7, 0xA4#8⟩,
      ⟨0x15#7, 0xA5#8⟩, ⟨0x16#7, 0xA6#8⟩, ⟨0x17#7, 0xA7#8⟩, ⟨0x18#7, 0xA8#8⟩]
    pollLimit := none }

theorem test_wf_refuses_zero_poll_limit :
    params.wellFormed = true ∧ ({ params with pollLimit := some 1 } : Params).wellFormed = true ∧
    ({ params with pollLimit := some 0 } : Params).wellFormed = false := by decide

/-! ## Words written out from the encodings (Table 30-2, Table 30-1; vectors E1 to E19, W1, W15 to W19) -/

-- op 00000001, reg x0111010, val 01011010
theorem test_decode_reg_write :
    decodeCommand 0b000000010011101001011010#24 = .ok (.regWrite 0x3A#8 0x5A#8) ∧
    decodeCommand 0b000000011011101001011010#24 = .ok (.regWrite 0x3A#8 0x5A#8) := by decide

-- op 00000010, reg x0000000, val ignored
theorem test_decode_reg_read :
    decodeCommand 0b000000100000000011111111#24 = .ok (.regRead 0x00#8) ∧
    decodeCommand 0b000000101001010100000000#24 = .ok (.regRead 0x15#8) := by decide

-- op 00000011, reg ignored, val the variant code
theorem test_decode_init :
    decodeCommand 0b000000111111111100000001#24 = .ok (.init 0x01#8) ∧
    decodeCommand 0b000000110000000000000010#24 = .ok (.init 0x02#8) := by decide

theorem test_decode_read_motion :
    decodeCommand 0b000001001010101111001101#24 = .ok .readMotion := by decide

theorem test_decode_frame_commands :
    decodeCommand 0b000001010000000000000000#24 = .ok .frameEnable ∧
    decodeCommand 0b000001100000000000000000#24 = .ok .frameStream ∧
    decodeCommand 0b000001110000000000000000#24 = .ok .frameRead := by decide

-- op 00001000, reg ignored, val bit 0 alone
theorem test_decode_set_led :
    decodeCommand 0b000010000000000011111110#24 = .ok (.setLed false) ∧
    decodeCommand 0b000010000000000011111111#24 = .ok (.setLed true) := by decide

-- bit 15 1, address 0111010, value 01011010; the lowest and the highest address
theorem test_decode_wframe :
    decodeFrame 0b1011101001011010#16 = .ok (.wframe 0x3A#7 0x5A#8) ∧
    decodeFrame 0b1000000000000000#16 = .ok (.wframe 0x00#7 0x00#8) ∧
    decodeFrame 0b1111111100001110#16 = .ok (.wframe 0x7F#7 0x0E#8) := by decide

-- bit 15 0, address, zero placeholder
theorem test_decode_rframe :
    decodeFrame 0b0101111100000000#16 = .ok (.rframe 0x5F#7) ∧
    decodeFrame 0b0111111100000000#16 = .ok (.rframe 0x7F#7) := by decide

-- E17 to E19, and a read frame whose second byte is not the placeholder
theorem test_decode_rejects :
    decodeCommand 0x000000#24 = .error (.illegalOpcode 0x00#8) ∧
    decodeCommand 0x090000#24 = .error (.illegalOpcode 0x09#8) ∧
    decodeCommand 0xFF3A5A#24 = .error (.illegalOpcode 0xFF#8) ∧
    decodeFrame 0x0001#16 = .error (.nonzeroPlaceholder 0x01#8) := by decide

-- the table's own numbering: 24 bits a command, 16 bits a frame, nothing else (R117)
theorem test_decode_table_word :
    decodeTableWord 24 0x013A5A = some (.regWrite 0x3A#8 0x5A#8) ∧ decodeTableWord 16 0x5F00 = some (.rframe 0x5F#7) ∧
    decodeTableWord 24 0x000000 = none ∧ decodeTableWord 8 0x01 = none := by decide

/-! ## Operands (R101 to R103, R111 to R115, R181; vectors W20, W21, I-1, I-2, F1, F2, M-2, M-3) -/

theorem test_address_byte :
    writeFrame 0xBA#8 0x5A#8 = 0xBA5A#16 ∧ writeFrame 0x3A#8 0x5A#8 = 0xBA5A#16 ∧
    readFrame 0xD8#8 = 0x5800#16 ∧ readFrame 0x58#8 = 0x5800#16 := by decide

theorem test_wire_bits : wireBits 0xBA#8 = [true, false, true, true, true, false, true, false] := by decide

theorem test_calibration_c1 :
    ([0, 10, 28, 29, 30, 52, 53, 100, 255].map fun r => (c1Clamp (c1Adjust (BitVec.ofNat 9 r))).toNat) =
      [0x0E, 0x18, 0x2A, 0x28, 0x29, 0x3F, 0x3F, 0x3F, 0x3F] := by decide

theorem test_calibration_c2 :
    ([0, 1, 5, 6, 10, 100, 128, 255].map fun r => (narrow (c2Scale (BitVec.ofNat 14 r))).toNat) =
      [0x00, 0x2D, 0xE1, 0x0E, 0xC2, 0x94, 0x80, 0xD3] := by decide

theorem test_pixel :
    pixel 0x7F#8 0xFF#8 = 0xFF#8 ∧ pixel 0x55#8 0x82#8 = 0x56#8 ∧ pixel 0x6A#8 0xC1#8 = 0xA9#8 ∧
    pixel 0x60#8 0x41#8 = 0x81#8 := by decide

theorem test_tag_edges :
    [0x3F#8, 0x40#8, 0x7F#8, 0x80#8, 0xBF#8, 0xC0#8].map tagCase =
      [.again, .upper, .upper, .skip, .skip, .again] := by decide

theorem test_deltas :
    signed16 0xFFFF#16 = -1 ∧ signed16 0x8000#16 = -32768 ∧ signed16 0x7FFF#16 = 32767 ∧
    signed16 (setHigh (setLow 0xAAAA#16 0x34#8) 0x12#8) = 4660 := by decide

theorem test_led_value : ledValue true = 0x1C#8 ∧ ledValue false = 0x00#8 := by decide

-- the permissive probe (S2) and the strict verification (I-4)
theorem test_identity_checks :
    probeFails 0x49#8 0x00#8 = false ∧ probeFails 0x00#8 0xB8#8 = false ∧ probeFails 0x48#8 0xB9#8 = true ∧
    probeFails 0xB8#8 0x49#8 = true ∧ finalFails 0x49#8 0x00#8 = false ∧ finalFails 0x49#8 0x01#8 = true ∧
    finalFails 0x48#8 0x00#8 = true := by decide

-- T-1, T-2: the floors of a write and of a read transaction
theorem test_floors :
    floorSum (txwEvents 0xBA#8 0x5A#8 0x00#8 0x00#8) = 350 ∧ floorSum (txrEvents 0x58#8 0x00#8 0x6A#8) = 200 := by decide

-- R118's own spellings, and R119
theorem test_written :
    written (.regWrite 0x3A#8 0x5A#8) = "REG_WRITE 0x3A, 0x5A".toList ∧ written (.init 0x00#8) = "INIT A".toList ∧
    written (.init 0x02#8) = "INIT 0x02".toList ∧ written ledOn = "SET_LED 1".toList ∧
    written (.wframe 0x3A#7 0x5A#8) = "WR(0x3A, 0x5A)".toList := by decide

/-! ## Single steps -/

/-- The reset state with the synthetic lists, the sensor answering `replies` first. -/
def start (replies : List Byte) : State := { State.reset with cfg := params, replies := replies }

/-- A command of opcode `op` running at the label `l`, its place inside the micro-step `k`. -/
def running (op val : Byte) (l : Label) (k : Link) (replies : List Byte) : State :=
  { start replies with op := op, argReg := 0x3A#8, argVal := val, busy := true, upc := l, link := k }

/-- The next state, where there is one. -/
def after (o : Out) : Option State :=
  match o with
  | .next t => some t
  | .fault _ => none
  | .refused _ => none

-- R40, R107: the word offered is latched and dispatched in one step
theorem test_step_accepts_reg_write :
    (after (step (State.reset.withFetchWord 24 0x013A5A))).map (fun t => (t.busy, t.upc, t.op, t.argReg, t.argVal)) =
      some (true, .w0, 0x01#8, 0x3A#8, 0x5A#8) := by decide

-- W0 puts the frame BA5A on the link (A1)
theorem test_step_reg_write_frame :
    (after (step (running 0x01#8 0x5A#8 .w0 .idle []))).map (fun t => t.link) = some (.carrying 0xBA5A#16 0) := by decide

-- A2: the reply of the read is RDATA, and the host may read it once the command has ended
theorem test_step_reg_read_result :
    (after (exec (.regRead 0x00#8) { running 0x02#8 0x00#8 .q0 .ended [] with rx := 0x49#8 })).map
      (fun t => (t.rdata, t.upc, t.readRdata)) = some (0x49#8, .q1, none) := by decide

theorem test_step_reg_read_done :
    (after (exec (.regRead 0x00#8)
        { running 0x02#8 0x00#8 .q1 .idle [] with rdata := 0x49#8, written := ⟨true, false, false⟩ })).map
      (fun t => (t.ok, t.err.code, t.readRdata)) = some (true, 0#3, some 0x49#8) := by decide

-- I-3, S5: reply 0x7F of register 0x67 gives the write C802
theorem test_step_init_first_branch :
    (after (exec (.init 0x00#8) { running 0x03#8 0x00#8 .i24 .idle [] with t := 0x7F#8 })).map (fun t => t.link) =
      some (.carrying 0xC802#16 0) := by decide

-- P1: the second item of the list A is the pause, one wait of 100 ms
theorem test_step_init_pause :
    (after (exec (.init 0x00#8) { running 0x03#8 0x00#8 .i46 .idle [] with idx := 1 })).map (fun t => (t.trace, t.upc)) =
      some ([.dly 100000], .i47) := by decide

-- S7: 0x04 = 0x12 over a low byte 0x34
theorem test_step_read_motion_high :
    (after (exec .readMotion { running 0x04#8 0x00#8 .m2 .ended [] with rx := 0x12#8, dx := 0xAA34#16 })).map
      (fun t => t.dx) = some 0x1234#16 := by decide

-- F11: the last write of the sequence
theorem test_step_frame_enable_write :
    (after (exec .frameEnable { running 0x05#8 0x00#8 .e2 .idle [] with idx := 8 })).map (fun t => t.link) =
      some (.carrying 0x98A8#16 0) := by decide

-- F10: the third read at a bound of 3 ends the command, PIXCNT not written
theorem test_step_poll_limit :
    (after (exec .frameStream { running 0x06#8 0x00#8 .s3 .idle [] with
        a := 0x00#8, polls := 3, cfg := { params with pollLimit := some 3 } })).map
      (fun t => (t.busy, t.ok, t.err.code, t.written.pixcnt)) = some (false, false, 4#3, false) := by decide

-- F5: the pixel A9 goes to the last element too
theorem test_step_frame_stream_pixel :
    (after (exec .frameStream { running 0x06#8 0x00#8 .s5 .idle [] with
        a := 0x6A#8, b := 0xC1#8, n := 1224#11, fb := [(0, 0xEE#8)] })).map (fun t => (t.fb, t.trace)) =
      some ([(0, 0xEE#8), (1224, 0xA9#8)], [.fbw 1224 0xA9#8]) := by decide

-- R241: the enable phase of FRAME_READ goes on to the streaming phase
theorem test_step_frame_read_goes_on :
    (after (exec .frameRead (running 0x07#8 0x00#8 .e5 .idle []))).map (fun t => (t.busy, t.upc)) =
      some (true, .s0) := by decide

-- L-3: the wait is the first event
theorem test_step_set_led_wait :
    (after (exec (.setLed true) (running 0x08#8 0x01#8 .l0 .idle []))).map (fun t => t.trace) =
      some [.dly 200000] := by decide

-- W22: the second event drives chip-select, whatever its level (R132, I-7)
theorem test_step_wframe_select :
    (after (exec (.wframe 0x3A#7 0x5A#8)
        { running 0x03#8 0x00#8 .i07 (.carrying 0xBA5A#16 1) [] with session := true, csl := .asserted })).map
      (fun t => (t.trace, t.csl, t.link)) = some ([.csa], .asserted, .carrying 0xBA5A#16 2) := by decide

-- W23: the second transfer sends 0x00 and its reply is kept
theorem test_step_rframe_reply :
    (after (exec (.rframe 0x58#7) (running 0x06#8 0x00#8 .s2 (.carrying 0x5800#16 5) [0x6A#8]))).map
      (fun t => (t.trace, t.rx, t.replies)) = some ([.xfer 0x00#8 0x6A#8], 0x6A#8, []) := by decide

-- X-1: an illegal word
theorem test_step_illegal :
    (after (step ((start []).offerNow 0xFF3A5A#24))).map (fun t => (t.busy, t.ok, t.err.code, t.trace)) =
      some (false, false, 3#3, []) := by decide

-- R300, R301: reset inside a transaction
theorem test_step_reset :
    (after (step { running 0x01#8 0x5A#8 .w0 (.carrying 0xBA5A#16 4) [] with
        session := true, csl := .asserted, rstIn := [true] })).map
      (fun t => (t.busy, t.upc, t.csl, t.session, t.link)) = some (false, .idle, .deasserted, false, .idle) := by decide

theorem test_core_is_this_machine : Sys2Proof.core.reset = State.reset ∧ Sys2Proof.core.step = step := ⟨rfl, rfl⟩

/-! ## Witnesses: a state and operands that meet a statement's hypotheses -/

theorem witness_DecodeOfEncodeIsTheInstruction :
    (Instr.regWrite 0x7F#8 0xFF#8).wellFormed = true ∧ (Instr.regRead 0x7F#8).wellFormed = true ∧
    (Instr.init 0xFF#8).wellFormed = true ∧ Instr.readMotion.wellFormed = true ∧ Instr.frameEnable.wellFormed = true ∧
    Instr.frameStream.wellFormed = true ∧ Instr.frameRead.wellFormed = true ∧ (Instr.setLed true).wellFormed = true ∧
    (Instr.wframe 0x7F#7 0xFF#8).wellFormed = true ∧ (Instr.rframe 0x7F#7).wellFormed = true := by decide

theorem witness_DecodedWordsAreWellFormed :
    decodeCommand 0x01FFFF#24 = .ok (.regWrite 0x7F#8 0xFF#8) ∧ decodeCommand 0x08FFFF#24 = .ok (.setLed true) := by decide

theorem witness_IgnoredBitsHaveNoEffect :
    (0x80#8 : Byte).setWidth 7 = (0x00#8 : Byte).setWidth 7 ∧ (0xFF#8 : Byte).setWidth 7 = (0x7F#8 : Byte).setWidth 7 ∧
    (0xFF#8 : Byte).getLsbD 0 = (0x01#8 : Byte).getLsbD 0 ∧ (0xFE#8 : Byte).getLsbD 0 = (0x00#8 : Byte).getLsbD 0 := by
  decide

/-- The three places a step finds its instruction. -/
theorem witness_StepRunsTheDecodedInstruction :
    ((start []).carryNow 0xBA5A#16).rstNow = false ∧
    ((start []).carryNow 0xBA5A#16).link = .carrying 0xBA5A#16 0 ∧
    decodeFrame 0xBA5A#16 = .ok (.wframe 0x3A#7 0x5A#8) ∧
    (running 0x01#8 0x5A#8 .w0 .ended []).rstNow = false ∧
    (running 0x01#8 0x5A#8 .w0 .ended []).busy = true ∧ (running 0x01#8 0x5A#8 .w0 .ended []).link = .ended ∧
    decodeCommand (running 0x01#8 0x5A#8 .w0 .ended []).latched = .ok (.regWrite 0x3A#8 0x5A#8) ∧
    ((start []).offerNow 0x08FFFF#24).rstNow = false ∧ ((start []).offerNow 0x08FFFF#24).link = .idle ∧
    ((start []).offerNow 0x08FFFF#24).busy = false ∧ ((start []).offerNow 0x08FFFF#24).cmdIn = [0x08FFFF#24] ∧
    decodeCommand 0x08FFFF#24 = .ok (.setLed true) := by decide

/-- An idle engine with one word offered, for the statements about acceptance and about whole commands. -/
theorem start_offers (w : Cmd) (replies : List Byte) : ((start replies).offerNow w).Offers w :=
  ⟨rfl, rfl, rfl, rfl, rfl⟩

/-- Both outcomes of acceptance, at the edges of the legal opcodes. -/
theorem witness_AcceptedWordIsDispatchedOnItsOpcode :
    ((start []).offerNow 0x01FFFF#24).Offers 0x01FFFF#24 ∧ firstLabel (cmdOp 0x01FFFF#24) = some .w0 ∧
    ((start []).offerNow 0x080000#24).Offers 0x080000#24 ∧ firstLabel (cmdOp 0x080000#24) = some .l0 ∧
    ((start []).offerNow 0x00FFFF#24).Offers 0x00FFFF#24 ∧ firstLabel (cmdOp 0x00FFFF#24) = none ∧
    ((start []).offerNow 0x090000#24).Offers 0x090000#24 ∧ firstLabel (cmdOp 0x090000#24) = none :=
  ⟨start_offers _ _, by decide, start_offers _ _, by decide, start_offers _ _, by decide, start_offers _ _, by decide⟩

theorem witness_IllegalCommandEndsAtOnce :
    ((start []).offerNow 0x000000#24).Offers 0x000000#24 ∧ cmdOp 0x000000#24 = 0x00#8 ∧
    ((start []).offerNow 0x090000#24).Offers 0x090000#24 ∧ 9 ≤ (cmdOp 0x090000#24).toNat ∧
    ((start []).offerNow 0xFF3A5A#24).Offers 0xFF3A5A#24 ∧ 9 ≤ (cmdOp 0xFF3A5A#24).toNat :=
  ⟨start_offers _ _, by decide, start_offers _ _, by decide, start_offers _ _, by decide⟩

/-- For the statements about a busy engine. -/
theorem witness_OfferWhileBusyHasNoEffect : (running 0x01#8 0x5A#8 .w0 .idle []).busy = true := by decide

theorem witness_ResetAbandonsTheCommand :
    ({ running 0x01#8 0x5A#8 .w0 (.carrying 0xBA5A#16 9) [] with rstIn := [true] } : State).rstNow = true := by decide

theorem witness_WriteTransactionEvents :
    (running 0x01#8 0x5A#8 .w0 (.carrying 0xBA5A#16 9) []).link = .carrying (wframeBits 0x3A#7 0x5A#8) 9 ∧
    (txwEvents 0xBA#8 0x5A#8 0x00#8 0x00#8)[9]? = some (.dly 200) ∧
    (start []).link = .idle ∧ (txwEvents 0xBA#8 0x5A#8 0x00#8 0x00#8)[0]? = some .acq := by decide

theorem witness_ReadTransactionEvents :
    (running 0x02#8 0x00#8 .q0 (.carrying 0x3A00#16 8) []).link = .carrying (rframeBits 0x3A#7) 8 ∧
    (txrEvents 0x3A#8 0x00#8 0x00#8)[8]? = some .rel ∧
    (start []).link = .idle ∧ (txrEvents 0x3A#8 0x00#8 0x00#8)[0]? = some .acq := by decide

theorem witness_WriteTransactionRun :
    (running 0x01#8 0x5A#8 .w0 (.carrying 0xBA5A#16 0) []).link = .carrying (writeFrame 0x3A#8 0x5A#8) 0 ∧
    (running 0x01#8 0x5A#8 .w0 (.carrying 0xBA5A#16 0) []).rstIn = [] := by decide

theorem witness_ReadTransactionRun :
    (running 0x02#8 0x00#8 .q0 (.carrying 0x3A00#16 0) []).link = .carrying (readFrame 0x3A#8) 0 ∧
    (running 0x02#8 0x00#8 .q0 (.carrying 0x3A00#16 0) []).rstIn = [] := by decide

/-- For every label a micro-step table names, and each place of the link it names: `RegWriteMicroSteps`,
`RegReadMicroSteps`, `InitResetsTheSensor`, `InitProbesIdentityAndPrimes`, `InitTunes`, `InitCalibrates`,
`InitVerifiesAndEnds`, `ReadMotionMicroSteps`, `SetLedMicroSteps`, and the plain entries of the frame phases. -/
theorem witness_micro_step (op val : Byte) (l : Label) (k : Link) :
    (running op val l k []).upc = l ∧ (running op val l k []).link = k := ⟨rfl, rfl⟩

/-- The two lists of the bulk load, at a write, at the pause, and past the end. -/
theorem witness_InitLoadsTheVariantList :
    (running 0x03#8 0x00#8 .i46 .idle []).var = 0x00#8 ∧ params.bulkA.items[0]? = some (.write ⟨0x7F#7, 0x00#8⟩) ∧
    params.bulkA.items[1]? = some .pause ∧ params.bulkA.items[2]? = some (.write ⟨0x40#7, 0x41#8⟩) ∧
    ({ running 0x03#8 0x01#8 .i46 .idle [] with var := 0x01#8, idx := 2 } : State).var = 0x01#8 ∧
    params.bulkB.items[2]? = some .pause ∧ params.bulkB.items.length = 3 := by decide

/-- The branches of the enable phase, at the edges of their ranges. -/
theorem witness_EnablePhaseMicroSteps :
    ({ running 0x05#8 0x00#8 .e2 .ended [] with idx := 8 } : State).idx = ((8 : Fin 9) : Nat) ∧
    ({ running 0x05#8 0x00#8 .e2 .idle [] with idx := 0 } : State).idx = ((0 : Fin 9) : Nat) ∧
    ({ running 0x05#8 0x00#8 .eg3 .idle [] with t := 0xBF#8 } : State).t.toNat < 0xC0 ∧
    0xC0 ≤ ({ running 0x05#8 0x00#8 .eg3 .idle [] with t := 0xC0#8 } : State).t.toNat ∧
    (running 0x05#8 0x00#8 .eg3 .idle []).cfg.pollLimit = none ∧
    (running 0x05#8 0x00#8 .e5 .idle []).op = 0x05#8 ∧ (running 0x07#8 0x00#8 .e5 .idle []).op ≠ 0x05#8 := by decide

/-- The branches of the streaming phase, at the edges of their ranges. -/
theorem witness_StreamPhaseMicroSteps :
    ({ running 0x06#8 0x00#8 .s1 .idle [] with iter := 1225#11 } : State).iter = 1225#11 ∧
    ({ running 0x06#8 0x00#8 .s1 .idle [] with iter := 1224#11 } : State).iter ≠ 1225#11 ∧
    (0x7F#8 : Byte).extractLsb' 6 2 = 0b01#2 ∧ (0x80#8 : Byte).extractLsb' 6 2 = 0b10#2 ∧
    (0x3F#8 : Byte).extractLsb' 6 2 = 0b00#2 ∧ (0xC0#8 : Byte).extractLsb' 6 2 = 0b11#2 ∧
    ({ running 0x06#8 0x00#8 .s5 .idle [] with n := 1224#11 } : State).n.toNat < 1225 := by decide

theorem witness_CompletionPhaseMicroSteps :
    ({ running 0x06#8 0x00#8 .cg3 .idle [] with t := 0xBF#8 } : State).t.toNat < 0xC0 ∧
    0xC0 ≤ ({ running 0x06#8 0x00#8 .cg3 .idle [] with t := 0xFF#8 } : State).t.toNat ∧
    (running 0x06#8 0x00#8 .cg3 .idle []).cfg.pollLimit = none := by decide

theorem witness_PixelStoreWritesElementN :
    ({ running 0x07#8 0x00#8 .s5 .idle [] with n := 1224#11 } : State).upc = .s5 ∧
    ({ running 0x07#8 0x00#8 .s5 .idle [] with n := 1224#11 } : State).n.toNat < 1225 := by decide

theorem witness_FrameReadIsEnableThenStream :
    framePhase .e0 = .enable ∧ framePhase .e5 = .enable ∧ framePhase .s0 = .stream ∧ framePhase .s8 = .stream ∧
    framePhase .cg0 = .completion ∧ framePhase .c4 = .completion ∧
    (running 0x07#8 0x00#8 .e5 .idle []).op = 0x07#8 ∧ (running 0x05#8 0x00#8 .e5 .idle []).op = 0x05#8 := by decide

/-! ### Whole commands -/

theorem witness_RegWriteRun :
    ((start []).offerNow 0x01BA5A#24).Offers 0x01BA5A#24 ∧ cmdOp 0x01BA5A#24 = 0x01#8 := ⟨start_offers _ _, by decide⟩

theorem witness_RegReadRun :
    ((start []).offerNow 0x02FF00#24).Offers 0x02FF00#24 ∧ cmdOp 0x02FF00#24 = 0x02#8 := ⟨start_offers _ _, by decide⟩

theorem witness_ReadMotionRun :
    ((start []).offerNow 0x04ABCD#24).Offers 0x04ABCD#24 ∧ cmdOp 0x04ABCD#24 = 0x04#8 := ⟨start_offers _ _, by decide⟩

theorem witness_SetLedRun :
    ((start []).offerNow 0x080001#24).Offers 0x080001#24 ∧ cmdOp 0x080001#24 = 0x08#8 ∧
    (cmdVal 0x080001#24).getLsbD 0 = true ∧ ((start []).offerNow 0x0800FE#24).Offers 0x0800FE#24 ∧
    (cmdVal 0x0800FE#24).getLsbD 0 = false :=
  ⟨start_offers _ _, by decide, by decide, start_offers _ _, by decide⟩

/-- The replies of I-5: both identity bytes 0x00. -/
theorem witness_InitFailsAtTheProbe :
    ((start [0, 0, 0, 0, 0, 0]).offerNow 0x030002#24).Offers 0x030002#24 ∧ cmdOp 0x030002#24 = 0x03#8 ∧
    ((start [0, 0, 0, 0, 0, 0]).offerNow 0x030002#24).replyAt 3 ≠ 0x49#8 ∧
    ((start [0, 0, 0, 0, 0, 0]).offerNow 0x030002#24).replyAt 5 ≠ 0xB8#8 :=
  ⟨start_offers _ _, by decide, by decide, by decide⟩

theorem witness_InitAlwaysEnds :
    ((start []).offerNow 0x03FF01#24).Offers 0x03FF01#24 ∧ cmdOp 0x03FF01#24 = 0x03#8 := ⟨start_offers _ _, by decide⟩

/-- A command that runs at a label of its own, between two transactions. -/
theorem running_runsAt (op val : Byte) (l : Label) (replies : List Byte) (i : Instr)
    (hd : decodeCommand (running op val l .idle replies).latched = .ok i) (hl : labelOf i l = true) :
    (running op val l .idle replies).RunsAt l :=
  ⟨rfl, rfl, rfl, rfl, i, hd, hl⟩

/-- Where all iterations are one iteration and every reply is one byte, the results are as the sensor answers them, be the
discarded replies other than 0x00 and more replies to come. -/
theorem replies_constant (it : Iteration) (w : Byte) (h : it.results = List.replicate it.results.length w)
    (hl : it.results.length ≤ 2) (j : Nat) (v : Byte)
    (hv : ((List.replicate 1225 it).flatMap Iteration.results)[j]? = some v) :
    (running 0x06#8 0x00#8 .s0 .idle (List.replicate 5000 w)).replyAt (2 * j + 1) = v := by
  have hmem := List.mem_of_getElem? hv
  obtain ⟨i, hi, hw⟩ := List.mem_flatMap.mp hmem
  rw [List.eq_of_mem_replicate hi, h] at hw
  have hj := (List.getElem?_eq_some_iff.mp hv).1
  have hb : 2 * j + 1 < 5000 := by
    simp only [List.length_flatMap, List.map_replicate, List.sum_replicate, smul_eq_mul] at hj
    omega
  show (match (List.replicate 5000 w)[2 * j + 1]? with | some r => r | none => _) = v
  rw [List.getElem?_replicate_of_lt hb, List.eq_of_mem_replicate hw]

/-- No skip at all (F8): every discarded reply is 0x40, and more replies come than the phase takes. -/
theorem witness_StreamingPhaseStoresThePixels :
    (List.replicate 1225 (Iteration.shown [] 0x40#8 0x40#8)).length = 1225 ∧
    (∀ i ∈ List.replicate 1225 (Iteration.shown [] 0x40#8 0x40#8), i.tagged = true) ∧
    (running 0x06#8 0x00#8 .s0 .idle (List.replicate 5000 0x40#8)).RunsAt .s0 ∧
    (running 0x06#8 0x00#8 .s0 .idle (List.replicate 5000 0x40#8)).cfg.pollLimit = none ∧
    (∀ (j : Nat) (v : Byte),
      ((List.replicate 1225 (Iteration.shown [] 0x40#8 0x40#8)).flatMap Iteration.results)[j]? = some v →
      (running 0x06#8 0x00#8 .s0 .idle (List.replicate 5000 0x40#8)).replyAt (2 * j + 1) = v) :=
  ⟨List.length_replicate, fun i hi => by rw [List.eq_of_mem_replicate hi]; decide,
    ⟨rfl, rfl, rfl, rfl, .frameStream, rfl, rfl⟩, rfl, replies_constant _ _ (by decide) (by decide)⟩

/-- 1225 skips (F7), the discarded replies 0x80. -/
theorem witness_StreamingPhaseStoresThePixels_skips :
    (List.replicate 1225 (Iteration.skipped [] 0x80#8)).length = 1225 ∧
    (∀ i ∈ List.replicate 1225 (Iteration.skipped [] 0x80#8), i.tagged = true) ∧
    (running 0x06#8 0x00#8 .s0 .idle (List.replicate 5000 0x80#8)).RunsAt .s0 ∧
    (running 0x06#8 0x00#8 .s0 .idle (List.replicate 5000 0x80#8)).cfg.pollLimit = none ∧
    (∀ (j : Nat) (v : Byte),
      ((List.replicate 1225 (Iteration.skipped [] 0x80#8)).flatMap Iteration.results)[j]? = some v →
      (running 0x06#8 0x00#8 .s0 .idle (List.replicate 5000 0x80#8)).replyAt (2 * j + 1) = v) :=
  ⟨List.length_replicate, fun i hi => by rw [List.eq_of_mem_replicate hi]; decide,
    ⟨rfl, rfl, rfl, rfl, .frameStream, rfl, rfl⟩, rfl, replies_constant _ _ (by decide) (by decide)⟩

/-- An iteration of each shape, with re-reads. -/
theorem witness_Iteration_tagged :
    (Iteration.shown [0xC5#8, 0x12#8] 0x6A#8 0xC1#8).tagged = true ∧ (Iteration.skipped [0x00#8] 0xBF#8).tagged = true := by
  decide

/-- The first reply all loops repeat on, in each of the three loops. -/
theorem witness_PollingLoopsAreUnbounded :
    (running 0x05#8 0x00#8 .eg2 .idle [0x00#8, 0xC0#8]).RunsAt .eg2 ∧
    (running 0x06#8 0x00#8 .cg2 .idle [0x00#8, 0xFF#8]).RunsAt .cg2 ∧
    (running 0x07#8 0x00#8 .s2 .idle [0x00#8, 0x3F#8]).RunsAt .s2 ∧
    (running 0x05#8 0x00#8 .eg2 .idle [0x00#8, 0xC0#8]).cfg.pollLimit = none ∧
    (∀ j, j < 1 → repolls .eg2 ((running 0x05#8 0x00#8 .eg2 .idle [0x00#8, 0xC0#8]).replyAt (2 * j + 1)) = true) ∧
    (∀ j, j < 1 → repolls .cg2 ((running 0x06#8 0x00#8 .cg2 .idle [0x00#8, 0xFF#8]).replyAt (2 * j + 1)) = true) ∧
    (∀ j, j < 1 → repolls .s2 ((running 0x07#8 0x00#8 .s2 .idle [0x00#8, 0x3F#8]).replyAt (2 * j + 1)) = true) :=
  ⟨running_runsAt _ _ _ _ .frameEnable (by decide) (by decide), running_runsAt _ _ _ _ .frameStream (by decide) (by decide),
    running_runsAt _ _ _ _ .frameRead (by decide) (by decide), rfl, by decide, by decide, by decide⟩

/-- `running` with the smallest finite bound, 1. -/
def limited (op : Byte) (l : Label) : State :=
  { running op 0x00#8 l .idle [0x00#8, 0xFF#8] with cfg := { params with pollLimit := some 1 } }

/-- F10 in each loop, with the smallest bound. -/
theorem witness_FinitePollLimitEndsTheCommand :
    (limited 0x05#8 .eg2).RunsAt .eg2 ∧ (limited 0x06#8 .cg2).RunsAt .cg2 ∧ (limited 0x07#8 .s2).RunsAt .s2 ∧
    (limited 0x05#8 .eg2).polls = 0 ∧ (limited 0x05#8 .eg2).cfg.pollLimit = some (0 + 1) ∧
    (∀ j, j < 0 + 1 → repolls .eg2 ((limited 0x05#8 .eg2).replyAt (2 * j + 1)) = true) ∧
    (∀ j, j < 0 + 1 → repolls .cg2 ((limited 0x06#8 .cg2).replyAt (2 * j + 1)) = true) ∧
    (∀ j, j < 0 + 1 → repolls .s2 ((limited 0x07#8 .s2).replyAt (2 * j + 1)) = true) :=
  ⟨⟨rfl, rfl, rfl, rfl, .frameEnable, by decide, by decide⟩, ⟨rfl, rfl, rfl, rfl, .frameStream, by decide, by decide⟩,
    ⟨rfl, rfl, rfl, rfl, .frameRead, by decide, by decide⟩, rfl, rfl, by decide, by decide, by decide⟩

/-! ### Frames and whole-machine rules: a next state of each instruction -/

/-- For `RegWriteAndSetLedFrame`, `RegReadFrame`, `ReadMotionFrame`, `FrameEnableFrame`, `OnlyInitWritesIstateAndVar`
and `OnlyWireFramesReachTheBus`. -/
theorem witness_command_next :
    exec (.regWrite 0x3A#8 0x5A#8) (running 0x01#8 0x5A#8 .w1 .idle []) =
      .next (running 0x01#8 0x5A#8 .w1 .idle []).done ∧
    exec (.setLed true) (running 0x08#8 0x01#8 .l4 .idle []) = .next (running 0x08#8 0x01#8 .l4 .idle []).done ∧
    exec (.regRead 0x3A#8) (running 0x02#8 0x00#8 .q1 .idle []) = .next (running 0x02#8 0x00#8 .q1 .idle []).done ∧
    exec .readMotion (running 0x04#8 0x00#8 .m5 .idle []) = .next (running 0x04#8 0x00#8 .m5 .idle []).done ∧
    exec .frameEnable (running 0x05#8 0x00#8 .e5 .idle []) = .next (running 0x05#8 0x00#8 .e5 .idle []).done :=
  ⟨rfl, rfl, rfl, rfl, rfl⟩

theorem witness_InitFrame :
    exec (.init 0x01#8) (running 0x03#8 0x01#8 .i03 .idle []) =
      .next (((running 0x03#8 0x01#8 .i03 .idle []).driveCs .deasserted).goto .i04) := rfl

/-- At the micro-step that stores a pixel, and at one that does not. -/
theorem witness_FrameStreamAndReadFrame :
    exec .frameStream { running 0x06#8 0x00#8 .s5 .idle [] with n := 1224#11 } =
      .next (State.goto .s6 (State.emit (.fbw 1224 0x00#8)
        { running 0x06#8 0x00#8 .s5 .idle [] with n := 1224#11, fb := [(1224, 0x00#8)] })) ∧
    exec .frameRead (running 0x07#8 0x00#8 .c4 .idle []) = .next (running 0x07#8 0x00#8 .c4 .idle []).done := ⟨rfl, rfl⟩

theorem witness_WireFrameFrame :
    (∃ t, exec (.wframe 0x3A#7 0x5A#8) (running 0x01#8 0x5A#8 .w0 (.carrying 0xBA5A#16 9) []) = .next t) ∧
    (∃ t, exec (.rframe 0x3A#7) (running 0x02#8 0x00#8 .q0 (.carrying 0x3A00#16 0) []) = .next t) :=
  ⟨⟨_, rfl⟩, ⟨_, rfl⟩⟩

/-- For the statements about any step that answers a next state: `LatchedCommandAndParametersAreHeld`,
`AtMostOneEventAStep`, `IstateGatesNothing`, `FrameBufferIsNeverRead`. -/
theorem witness_step_next :
    (running 0x01#8 0x5A#8 .w1 .idle []).rstNow = false ∧ (running 0x01#8 0x5A#8 .w1 .idle []).busy = true ∧
    ∃ t, step (running 0x01#8 0x5A#8 .w1 .idle []) = .next t := ⟨rfl, rfl, _, rfl⟩

/-- Each of the ends: `done`, the optional bound, and INIT's failure. -/
theorem witness_EveryEndIsDoneOrRaise :
    (after (exec (.regWrite 0x3A#8 0x5A#8) (running 0x01#8 0x5A#8 .w1 .idle []))).map (fun t => (t.busy, t.ok)) =
      some (false, true) ∧
    (after (exec .frameEnable { running 0x05#8 0x00#8 .eg3 .idle [] with
        t := 0xC0#8, polls := 1, cfg := { params with pollLimit := some 1 } })).map (fun t => (t.busy, t.err)) =
      some (false, .pollLimit) ∧
    (after (exec (.init 0x02#8) { running 0x03#8 0x02#8 .i43 .idle [] with var := 0x02#8 })).map
      (fun t => (t.busy, t.err, t.istate)) = some (false, .unsupportedVariant, .failed) := by decide

/-- A state inside a transaction that meets the invariant, for `EveryStepKeepsTheInvariant`,
`NoStepStopsUnderTheInvariant` and `BusEventsComeInAnOpenSession`: an INIT at the first transfer of I07. -/
def insideInit : State :=
  { running 0x03#8 0x01#8 .i07 (.carrying 0xBA5A#16 3) [0x00#8] with
    var := 0x01#8, istate := .running, csl := .asserted, session := true }

theorem witness_Inv : insideInit.Inv ∧ ∃ t, step insideInit = .next t :=
  ⟨⟨by decide, by decide, by decide, by decide, by decide, by decide, by decide, by decide⟩, _, rfl⟩

/-- What R42 leaves unspecified is not shut out: `PIXCNT` not yet written, at its largest value. -/
theorem test_inv_admits_unspecified_pixcnt :
    ({ start [] with pixcnt := 2047#11, n := 2047#11, iter := 2047#11, c1 := 511#9, c2 := 16383#14 } : State).Inv :=
  ⟨by decide, by decide, by decide, by decide, by decide, by decide, by decide, by decide⟩

/-- A REG_WRITE whose transaction comes to its first event, and to its `REL`. -/
def atAcq : State := running 0x01#8 0x5A#8 .w0 (.carrying 0xBA5A#16 0) []
def atRel : State := { running 0x01#8 0x5A#8 .w0 (.carrying 0xBA5A#16 8) [] with session := true }

/-- Each clause of `BusEventsComeInAnOpenSession`. -/
theorem witness_BusEventsComeInAnOpenSession :
    (after (step insideInit)).map (fun t => t.trace) =
      some (.xfer 0xBA#8 0x00#8 :: insideInit.trace) ∧
    atAcq.Inv ∧ (after (step atAcq)).map (fun t => t.trace) = some (.acq :: atAcq.trace) ∧
    atRel.Inv ∧ atRel.rstNow = false ∧ (after (step atRel)).map (fun t => t.trace) = some (.rel :: atRel.trace) :=
  ⟨by decide, ⟨by decide, by decide, by decide, by decide, by decide, by decide, by decide, by decide⟩, by decide,
    ⟨by decide, by decide, by decide, by decide, by decide, by decide, by decide, by decide⟩, by decide, by decide⟩

end Sys2Proof.Tests
end

section
/-! PROOFS. The scope of a step (00_scope.md R8, R11, R12): which instruction a step runs, and how many bus events it
emits. -/

namespace Sys2Proof.Machine

/-! ## What the sequencer runs -/

/-- A frame the decoder knows runs as its instruction. -/
theorem runFrame_of_decode {f : Frame} {i : Instr} (s : State) (hd : decodeFrame f = .ok i) :
    runFrame f s = exec i s := by
  simp [runFrame, hd]

/-- A latched word the decoder knows runs as its instruction. -/
theorem runCommand_of_decode {s : State} {i : Instr} (hd : decodeCommand s.latched = .ok i) :
    runCommand s = exec i s := by
  simp [runCommand, hd]

/-- An accepted word the decoder knows runs as its instruction, its bytes latched. -/
theorem acceptWord_of_decode {w : Cmd} {i : Instr} (s : State) (hd : decodeCommand w = .ok i) :
    acceptWord w s = exec i (s.latch w) := by
  simp [acceptWord, hd]

/-- The port shows the first word offered. -/
theorem pollPort_of_offer {s : State} {w : Cmd} {q : List Cmd} (hq : s.cmdIn = w :: q) :
    pollPort s = acceptWord w s := by
  simp [pollPort, hq]

/-- Settles O6, one clause for each place the instruction can stand. -/
theorem stepRunsTheDecodedInstruction : Obligations.StepRunsTheDecodedInstruction := by
  intro s i hr
  refine ⟨fun f k hl hd => ?_, fun hl hb hd => ?_, fun w q hl hb hq hd => ?_⟩
  · rw [step_of_carrying hr hl, runFrame_of_decode _ hd]
  · have hc : decodeCommand s.clock.latched = .ok i := hd
    rw [step_of_busy hr hl hb, runCommand_of_decode hc]
  · have hc : s.clock.cmdIn = w :: q := hq
    rw [step_of_idle hr hl hb, pollPort_of_offer hc, acceptWord_of_decode _ hd]

/-! ## A property of the next state, where there is one -/

/-- If the outcome is a next state, that state satisfies `P`. -/
def Ensures (P : State → Prop) : Out → Prop
  | .next t => P t
  | .fault _ => True
  | .refused _ => True

@[simp] theorem ensures_next (P : State → Prop) (t : State) : Ensures P (.next t) ↔ P t := Iff.rfl
@[simp] theorem ensures_fault (P : State → Prop) (r : Fault) : Ensures P (.fault r) := trivial
@[simp] theorem ensures_refused (P : State → Prop) (r : Refusal) : Ensures P (.refused r) := trivial

theorem ensures_iff {P : State → Prop} {o : Out} : Ensures P o ↔ ∀ t, o = .next t → P t := by
  cases o <;> simp

theorem Ensures.imp {P Q : State → Prop} {o : Out} (h : Ensures P o) (hPQ : ∀ t, P t → Q t) : Ensures Q o := by
  rw [ensures_iff] at h ⊢
  exact fun t ht => hPQ t (h t ht)

/-- `WR` starts its transaction, or ends. -/
@[simp] theorem ensures_wr (P : State → Prop) (reg val : Byte) (l : Label) (s : State) :
    Ensures P (wr reg val l s) ↔
      (s.link = .idle → P { s with link := .carrying (writeFrame reg val) 0 }) ∧
      (s.link = .ended → P { s with link := .idle, upc := l }) := by
  unfold wr
  split <;> simp [*]

/-- `RD` starts its transaction, or stores the reply and ends. -/
@[simp] theorem ensures_rd (P : State → Prop) (reg : Byte) (store : Byte → State → State) (l : Label)
    (s : State) :
    Ensures P (rd reg store l s) ↔
      (s.link = .idle → P { s with link := .carrying (readFrame reg) 0 }) ∧
      (s.link = .ended → P { store s.rx s with link := .idle, upc := l }) := by
  unfold rd
  split <;> simp [*]

/-! ## What a command's own micro-steps do to the bus -/

/-- The session, the sensor and the record of events are in `t` as they are in `s`. -/
structure SameBus (s t : State) : Prop where
  session : t.session = s.session
  replies : t.replies = s.replies
  xfers : t.xfers = s.xfers
  trace : t.trace = s.trace

@[simp] theorem sameBus_iff {s t : State} :
    SameBus s t ↔ t.session = s.session ∧ t.replies = s.replies ∧ t.xfers = s.xfers ∧ t.trace = s.trace :=
  ⟨fun ⟨hs, hr, hx, ht⟩ => ⟨hs, hr, hx, ht⟩, fun ⟨hs, hr, hx, ht⟩ => ⟨hs, hr, hx, ht⟩⟩

/-- From `s` to `t` no byte is transferred, no session opened or closed, and at most one event emitted: a chip-select
edge, a wait or a frame-buffer write (41_register_access.md R152). -/
def OwnBusStep (s t : State) : Prop :=
  t.session = s.session ∧ t.replies = s.replies ∧ t.xfers = s.xfers ∧
  (t.trace = s.trace ∨
    ∃ e, t.trace = e :: s.trace ∧ (e = .csa ∨ e = .csd ∨ (∃ us, e = .dly us) ∨ (∃ j v, e = .fbw j v)))

theorem SameBus.ownBusStep {s t : State} (h : SameBus s t) : OwnBusStep s t := by
  obtain ⟨hsession, hreplies, hxfers, htrace⟩ := h
  exact ⟨hsession, hreplies, hxfers, .inl htrace⟩

@[simp] theorem wait_ownBusStep (us : Nat) (l : Label) (s : State) : Ensures (OwnBusStep s) (wait us l s) :=
  ⟨rfl, rfl, rfl, .inr ⟨_, rfl, .inr (.inr (.inl ⟨us, rfl⟩))⟩⟩

@[simp] theorem pulse_ownBusStep (v : Level) (l : Label) (s : State) : Ensures (OwnBusStep s) (pulse v l s) := by
  cases v with
  | asserted => exact ⟨rfl, rfl, rfl, .inr ⟨_, rfl, .inl rfl⟩⟩
  | deasserted => exact ⟨rfl, rfl, rfl, .inr ⟨_, rfl, .inr (.inl rfl)⟩⟩

@[simp] theorem storePixel_ownBusStep (v : Byte) (l : Label) (s : State) :
    Ensures (OwnBusStep s) (storePixel v l s) := by
  refine ensures_iff.mpr fun t h => ?_
  obtain ⟨-, rfl⟩ := storePixel_next h
  exact ⟨rfl, rfl, rfl, .inr ⟨_, rfl, .inr (.inr (.inr ⟨_, _, rfl⟩))⟩⟩

@[simp] theorem ownBusStep_ite {c : Prop} [Decidable c] (s t u : State) :
    OwnBusStep s (if c then t else u) ↔ (c → OwnBusStep s t) ∧ (¬c → OwnBusStep s u) := by
  split <;> simp [*]

/-! ## The commands, label by label

At each label a micro-step is a wait, a chip-select edge or a frame-buffer write, whose lemmas stand above, or it
leaves the bus as it is (`SameBus.ownBusStep`): a `WR` or `RD` only puts its frame on the link or takes the reply. -/

theorem execRegWrite_ownBusStep (reg val : Byte) (s : State) : Ensures (OwnBusStep s) (execRegWrite reg val s) := by
  unfold execRegWrite
  split <;> simp [SameBus.ownBusStep]

theorem execRegRead_ownBusStep (reg : Byte) (s : State) : Ensures (OwnBusStep s) (execRegRead reg s) := by
  unfold execRegRead
  split <;> simp [SameBus.ownBusStep]

@[simp] theorem bulkTest_ownBusStep (s : State) : Ensures (OwnBusStep s) (bulkTest s) := by
  unfold bulkTest
  split <;> simp [SameBus.ownBusStep]

@[simp] theorem bulkApply_ownBusStep (s : State) : Ensures (OwnBusStep s) (bulkApply s) := by
  unfold bulkApply
  split <;> simp [SameBus.ownBusStep]

theorem execInit_ownBusStep (variant : Byte) (s : State) : Ensures (OwnBusStep s) (execInit variant s) := by
  unfold execInit
  split <;> simp [SameBus.ownBusStep]

theorem execReadMotion_ownBusStep (s : State) : Ensures (OwnBusStep s) (execReadMotion s) := by
  unfold execReadMotion
  split <;> simp [SameBus.ownBusStep]

@[simp] theorem gateArm_ownBusStep (l : Label) (s : State) : Ensures (OwnBusStep s) (gateArm l s) := by
  simp [gateArm, SameBus.ownBusStep]

@[simp] theorem pollAgain_ownBusStep (l : Label) (s : State) : OwnBusStep s (s.pollAgain l) := by
  obtain ⟨-, h⟩ | ⟨-, h⟩ := pollAgain_cases l s <;> simp [h, SameBus.ownBusStep]

@[simp] theorem gateTest_ownBusStep (poll exit : Label) (s : State) :
    Ensures (OwnBusStep s) (gateTest poll exit s) := by
  simp [gateTest, SameBus.ownBusStep]

@[simp] theorem classify_ownBusStep (s : State) : OwnBusStep s (classify s) := by
  unfold classify
  split <;> simp [SameBus.ownBusStep]

@[simp] theorem enableWrite_ownBusStep (s : State) : Ensures (OwnBusStep s) (enableWrite s) := by
  unfold enableWrite
  split <;> simp [SameBus.ownBusStep]

@[simp] theorem enablePhase_ownBusStep (s : State) : Ensures (OwnBusStep s) (enablePhase s) := by
  unfold enablePhase
  split <;> simp [SameBus.ownBusStep]

@[simp] theorem streamPhase_ownBusStep (s : State) : Ensures (OwnBusStep s) (streamPhase s) := by
  unfold streamPhase
  split <;> simp [SameBus.ownBusStep]

@[simp] theorem completionPhase_ownBusStep (s : State) : Ensures (OwnBusStep s) (completionPhase s) := by
  unfold completionPhase
  split <;> simp [SameBus.ownBusStep]

theorem execFrameEnable_ownBusStep (s : State) : Ensures (OwnBusStep s) (execFrameEnable s) := by
  unfold execFrameEnable
  split <;> simp [SameBus.ownBusStep]

theorem execFrameStream_ownBusStep (s : State) : Ensures (OwnBusStep s) (execFrameStream s) := by
  unfold execFrameStream
  split <;> simp [SameBus.ownBusStep]

theorem execFrameRead_ownBusStep (s : State) : Ensures (OwnBusStep s) (execFrameRead s) := by
  unfold execFrameRead
  split <;> simp [SameBus.ownBusStep]

theorem execSetLed_ownBusStep (on : Bool) (s : State) : Ensures (OwnBusStep s) (execSetLed on s) := by
  unfold execSetLed
  split <;> simp [SameBus.ownBusStep]

/-- Every command, at every label. -/
theorem exec_ownBusStep {i : Instr} (hw : ∀ reg val, i ≠ .wframe reg val) (hr : ∀ reg, i ≠ .rframe reg)
    (s : State) : Ensures (OwnBusStep s) (exec i s) := by
  cases i with
  | regWrite reg val => exact execRegWrite_ownBusStep reg val s
  | regRead reg => exact execRegRead_ownBusStep reg s
  | init variant => exact execInit_ownBusStep variant s
  | readMotion => exact execReadMotion_ownBusStep s
  | frameEnable => exact execFrameEnable_ownBusStep s
  | frameStream => exact execFrameStream_ownBusStep s
  | frameRead => exact execFrameRead_ownBusStep s
  | setLed on => exact execSetLed_ownBusStep on s
  | wframe reg val => exact absurd rfl (hw reg val)
  | rframe reg => exact absurd rfl (hr reg)

/-! ## At most one event -/

/-- From `s` to `t` at most one event is emitted, and none taken back. -/
def AtMostOneEvent (s t : State) : Prop := t.trace = s.trace ∨ ∃ e, t.trace = e :: s.trace

theorem OwnBusStep.atMostOneEvent {s t : State} (h : OwnBusStep s t) : AtMostOneEvent s t := by
  obtain ⟨-, -, -, htrace⟩ := h
  exact htrace.imp_right fun ⟨e, he, _⟩ => ⟨e, he⟩

/-- A wire frame emits exactly the event of one operation of its transaction. -/
theorem carryFrame_atMostOneEvent (f : Frame) (ops : List BusOp) (s : State) :
    Ensures (AtMostOneEvent s) (carryFrame f ops s) := by
  refine ensures_iff.mpr fun t h => .inr ?_
  obtain ⟨op, -, rfl⟩ := carryFrame_next h
  exact busOp_trace op s

theorem exec_atMostOneEvent (i : Instr) (s : State) : Ensures (AtMostOneEvent s) (exec i s) := by
  cases i with
  | wframe reg val => exact carryFrame_atMostOneEvent _ _ s
  | rframe reg => exact carryFrame_atMostOneEvent _ _ s
  | _ => exact (exec_ownBusStep (by simp) (by simp) s).imp fun _ => OwnBusStep.atMostOneEvent

theorem runFrame_atMostOneEvent (f : Frame) (s : State) : Ensures (AtMostOneEvent s) (runFrame f s) := by
  unfold runFrame
  split
  · exact exec_atMostOneEvent _ s
  · exact ensures_refused _ _

theorem runCommand_atMostOneEvent (s : State) : Ensures (AtMostOneEvent s) (runCommand s) := by
  unfold runCommand
  split
  · exact exec_atMostOneEvent _ s
  · exact ensures_fault _ _

/-- Latching a word leaves the record, so acceptance emits what its instruction emits, or nothing. -/
theorem acceptWord_atMostOneEvent (w : Cmd) (s : State) : Ensures (AtMostOneEvent s) (acceptWord w s) := by
  unfold acceptWord
  split
  · exact exec_atMostOneEvent _ (s.latch w)
  · exact .inl rfl

theorem pollPort_atMostOneEvent (s : State) : Ensures (AtMostOneEvent s) (pollPort s) := by
  unfold pollPort
  split
  · exact acceptWord_atMostOneEvent _ s
  · exact .inl rfl

/-- Settles O52, over what a step outside reset can do; dropping a level of `rst` leaves the record. -/
theorem atMostOneEventAStep : Obligations.AtMostOneEventAStep := by
  intro s t hr h
  have hstep : Ensures (AtMostOneEvent s.clock) (step s) := by
    obtain ⟨hrst, -⟩ | ⟨-, f, -, -, hs⟩ | ⟨-, -, -, hs⟩ | ⟨-, -, -, hs⟩ := step_cases s
    · exact absurd hrst (by simp [hr])
    · exact hs ▸ runFrame_atMostOneEvent f s.clock
    · exact hs ▸ runCommand_atMostOneEvent s.clock
    · exact hs ▸ pollPort_atMostOneEvent s.clock
  exact ensures_iff.mp hstep t h

end Sys2Proof.Machine
end

section
/-! PROOFS. The state right after reset, and what the instructions leave alone in any state: the latched command, the
parameters and the offers, and but for INIT `ISTATE` and `VAR` (10_state.md R21 to R23, R40, R42; 20_memory.md R68). -/

namespace Sys2Proof.Machine

/-! ## Right after reset -/

/-- Settles O10: the reset state holds each value R42 gives, and no result in it counts as written. -/
theorem resetStateIsIdle : Obligations.ResetStateIsIdle :=
  ⟨rfl, rfl, rfl, rfl, rfl, rfl, rfl, rfl, rfl, rfl, rfl, rfl⟩

/-- Settles O57, clause by clause; each is a closed Boolean of the reset state. -/
theorem resetMeetsTheInvariant : Obligations.ResetMeetsTheInvariant :=
  { sequenced := rfl, linked := rfl, lined := rfl, reported := rfl, indexed := rfl, counted := rfl,
    calibrated := rfl, stored := rfl }

/-! ## The registers no micro-step writes -/

/-- The latched command, the parameters and the offers are in `t` as they are in `s`. -/
structure SameInputs (s t : State) : Prop where
  op : t.op = s.op
  argReg : t.argReg = s.argReg
  argVal : t.argVal = s.argVal
  cfg : t.cfg = s.cfg
  cmdIn : t.cmdIn = s.cmdIn

theorem sameInputs_iff {s t : State} :
    SameInputs s t ↔
      t.op = s.op ∧ t.argReg = s.argReg ∧ t.argVal = s.argVal ∧ t.cfg = s.cfg ∧ t.cmdIn = s.cmdIn :=
  ⟨fun ⟨ho, hr, hv, hc, hq⟩ => ⟨ho, hr, hv, hc, hq⟩, fun ⟨ho, hr, hv, hc, hq⟩ => ⟨ho, hr, hv, hc, hq⟩⟩

@[simp] theorem sameInputs_ite {c : Prop} [Decidable c] (s t u : State) :
    SameInputs s (if c then t else u) ↔ (c → SameInputs s t) ∧ (¬c → SameInputs s u) := by
  split <;> simp [*]

/-- Besides these inputs, `ISTATE` and `VAR` are in `t` as they are in `s`. -/
structure SameSetup (s t : State) : Prop extends SameInputs s t where
  istate : t.istate = s.istate
  var : t.var = s.var

theorem sameSetup_iff {s t : State} :
    SameSetup s t ↔ SameInputs s t ∧ t.istate = s.istate ∧ t.var = s.var :=
  ⟨fun ⟨h, hi, hv⟩ => ⟨h, hi, hv⟩, fun ⟨h, hi, hv⟩ => ⟨h, hi, hv⟩⟩

@[simp] theorem sameSetup_ite {c : Prop} [Decidable c] (s t u : State) :
    SameSetup s (if c then t else u) ↔ (c → SameSetup s t) ∧ (¬c → SameSetup s u) := by
  split <;> simp [*]

/-- Each operation of a transaction touches the lines, the reply and the sensor's inputs only. -/
theorem carryFrame_sameSetup (f : Frame) (ops : List BusOp) (s : State) :
    Ensures (SameSetup s) (carryFrame f ops s) := by
  refine ensures_iff.mpr fun t h => ?_
  obtain ⟨op, -, rfl⟩ := carryFrame_next h
  cases op <;> exact ⟨⟨rfl, rfl, rfl, rfl, rfl⟩, rfl, rfl⟩

@[simp] theorem storePixel_sameSetup (v : Byte) (l : Label) (s : State) :
    Ensures (SameSetup s) (storePixel v l s) := by
  refine ensures_iff.mpr fun t h => ?_
  obtain ⟨-, rfl⟩ := storePixel_next h
  exact ⟨⟨rfl, rfl, rfl, rfl, rfl⟩, rfl, rfl⟩

@[simp] theorem pollAgain_sameSetup (l : Label) (s : State) : SameSetup s (s.pollAgain l) := by
  obtain ⟨-, h⟩ | ⟨-, h⟩ := pollAgain_cases l s <;> rw [h] <;> exact ⟨⟨rfl, rfl, rfl, rfl, rfl⟩, rfl, rfl⟩

@[simp] theorem classify_sameSetup (s : State) : SameSetup s (classify s) := by
  unfold classify
  split
  · simp [sameSetup_iff, sameInputs_iff]
  · simp
  · simp [sameSetup_iff, sameInputs_iff]

@[simp] theorem enableWrite_sameSetup (s : State) : Ensures (SameSetup s) (enableWrite s) := by
  unfold enableWrite
  split <;> simp [sameSetup_iff, sameInputs_iff]

@[simp] theorem enablePhase_sameSetup (s : State) : Ensures (SameSetup s) (enablePhase s) := by
  unfold enablePhase
  split <;> simp [gateArm, gateTest, wait] <;> simp [sameSetup_iff, sameInputs_iff]

@[simp] theorem streamPhase_sameSetup (s : State) : Ensures (SameSetup s) (streamPhase s) := by
  unfold streamPhase
  split <;> simp <;> simp [sameSetup_iff, sameInputs_iff]

@[simp] theorem completionPhase_sameSetup (s : State) : Ensures (SameSetup s) (completionPhase s) := by
  unfold completionPhase
  split <;> simp [gateArm, gateTest] <;> simp [sameSetup_iff, sameInputs_iff]

/-- Every instruction but INIT, at every label. -/
theorem exec_sameSetup {i : Instr} (hi : ∀ v, i ≠ .init v) (s : State) : Ensures (SameSetup s) (exec i s) := by
  cases i with
  | init v => exact absurd rfl (hi v)
  | regWrite reg val =>
    show Ensures _ (execRegWrite reg val s)
    unfold execRegWrite
    split <;> simp [sameSetup_iff, sameInputs_iff]
  | regRead reg =>
    show Ensures _ (execRegRead reg s)
    unfold execRegRead
    split <;> simp [sameSetup_iff, sameInputs_iff]
  | readMotion =>
    show Ensures _ (execReadMotion s)
    unfold execReadMotion
    split <;> simp [sameSetup_iff, sameInputs_iff]
  | frameEnable =>
    show Ensures _ (execFrameEnable s)
    unfold execFrameEnable
    split
    · simp [sameSetup_iff, sameInputs_iff]
    · simp
    · simp
  | frameStream =>
    show Ensures _ (execFrameStream s)
    unfold execFrameStream
    split
    · simp [sameSetup_iff, sameInputs_iff]
    all_goals simp
  | frameRead =>
    show Ensures _ (execFrameRead s)
    unfold execFrameRead
    split
    · simp [sameSetup_iff, sameInputs_iff]
    all_goals simp
  | setLed on =>
    show Ensures _ (execSetLed on s)
    unfold execSetLed
    split <;> simp [wait, sameSetup_iff, sameInputs_iff]
  | wframe reg val => exact carryFrame_sameSetup _ _ s
  | rframe reg => exact carryFrame_sameSetup _ _ s

/-- Settles O50, by the registers every instruction but INIT leaves alone. -/
theorem onlyInitWritesIstateAndVar : Obligations.OnlyInitWritesIstateAndVar := by
  intro i s t hi h
  have hsame := ensures_iff.mp (exec_sameSetup hi s) t h
  exact ⟨hsame.istate, hsame.var⟩

@[simp] theorem bulkTest_sameInputs (s : State) : Ensures (SameInputs s) (bulkTest s) := by
  unfold bulkTest
  split <;> simp [sameInputs_iff]

@[simp] theorem bulkApply_sameInputs (s : State) : Ensures (SameInputs s) (bulkApply s) := by
  unfold bulkApply
  split <;> simp [wait, sameInputs_iff]

theorem execInit_sameInputs (variant : Byte) (s : State) : Ensures (SameInputs s) (execInit variant s) := by
  unfold execInit
  split <;> simp [wait, pulse, State.driveCs] <;> simp [sameInputs_iff]

/-- Every instruction, at every label. -/
theorem exec_sameInputs (i : Instr) (s : State) : Ensures (SameInputs s) (exec i s) := by
  cases i with
  | init v => exact execInit_sameInputs v s
  | _ => exact (exec_sameSetup (by simp) s).imp fun _ h => h.toSameInputs

theorem runFrame_sameInputs (f : Frame) (s : State) : Ensures (SameInputs s) (runFrame f s) := by
  unfold runFrame
  split
  · exact exec_sameInputs _ s
  · exact ensures_refused _ _

theorem runCommand_sameInputs (s : State) : Ensures (SameInputs s) (runCommand s) := by
  unfold runCommand
  split
  · exact exec_sameInputs _ s
  · exact ensures_fault _ _

/-- An idle engine may latch the word offered; the parameters are not among what it writes. -/
theorem pollPort_cfg (s : State) : Ensures (fun t => t.cfg = s.cfg) (pollPort s) := by
  unfold pollPort
  split
  · unfold acceptWord
    split
    · exact (exec_sameInputs _ _).imp fun _ h => h.cfg
    · exact rfl
  · exact rfl

/-- Settles O51: a frame and a running command keep all the inputs; reset and an idle engine keep the parameters. -/
theorem latchedCommandAndParametersAreHeld : Obligations.LatchedCommandAndParametersAreHeld := by
  intro s t h
  have held (hsame : SameInputs s t) : t.cfg = s.cfg ∧ (s.busy = true → t.cmdIn = s.cmdIn) ∧
      (s.rstNow = false → s.busy = true → t.op = s.op ∧ t.argReg = s.argReg ∧ t.argVal = s.argVal) :=
    ⟨hsame.cfg, fun _ => hsame.cmdIn, fun _ _ => ⟨hsame.op, hsame.argReg, hsame.argVal⟩⟩
  obtain ⟨hr, hs⟩ | ⟨-, f, -, -, hs⟩ | ⟨-, -, -, hs⟩ | ⟨-, -, hb, hs⟩ := step_cases s
  · rw [hs] at h
    cases h
    exact ⟨rfl, fun _ => rfl, fun hr' => absurd hr (by simp [hr'])⟩
  · have hsame := ensures_iff.mp (runFrame_sameInputs f s.clock) t (hs ▸ h)
    exact held ⟨hsame.op, hsame.argReg, hsame.argVal, hsame.cfg, hsame.cmdIn⟩
  · have hsame := ensures_iff.mp (runCommand_sameInputs s.clock) t (hs ▸ h)
    exact held ⟨hsame.op, hsame.argReg, hsame.argVal, hsame.cfg, hsame.cmdIn⟩
  · have hcfg := ensures_iff.mp (pollPort_cfg s.clock) t (hs ▸ h)
    exact ⟨hcfg, fun hb' => absurd hb (by simp [hb']), fun _ hb' => absurd hb (by simp [hb'])⟩

end Sys2Proof.Machine
end

section
/-! PROOFS. What is offered while a command runs has no effect (10_state.md R40): an instruction run with other words
offered answers the same, and leaves the offers standing. -/

namespace Sys2Proof.Machine

/-- `s` with the words `q` offered. -/
def State.reoffer (q : List Cmd) (s : State) : State := { s with cmdIn := q }

@[simp] theorem State.reoffer_op (q : List Cmd) (s : State) : (s.reoffer q).op = s.op := rfl
@[simp] theorem State.reoffer_n (q : List Cmd) (s : State) : (s.reoffer q).n = s.n := rfl
@[simp] theorem State.reoffer_a (q : List Cmd) (s : State) : (s.reoffer q).a = s.a := rfl
@[simp] theorem State.reoffer_idx (q : List Cmd) (s : State) : (s.reoffer q).idx = s.idx := rfl
@[simp] theorem State.reoffer_polls (q : List Cmd) (s : State) : (s.reoffer q).polls = s.polls := rfl
@[simp] theorem State.reoffer_cfg (q : List Cmd) (s : State) : (s.reoffer q).cfg = s.cfg := rfl
@[simp] theorem State.reoffer_var (q : List Cmd) (s : State) : (s.reoffer q).var = s.var := rfl
@[simp] theorem State.reoffer_upc (q : List Cmd) (s : State) : (s.reoffer q).upc = s.upc := rfl
@[simp] theorem State.reoffer_busy (q : List Cmd) (s : State) : (s.reoffer q).busy = s.busy := rfl
@[simp] theorem State.reoffer_link (q : List Cmd) (s : State) : (s.reoffer q).link = s.link := rfl
@[simp] theorem State.reoffer_latched (q : List Cmd) (s : State) : (s.reoffer q).latched = s.latched := rfl
@[simp] theorem State.reoffer_bulkItem (q : List Cmd) (s : State) : (s.reoffer q).bulkItem = s.bulkItem := rfl
@[simp] theorem State.reoffer_position (q : List Cmd) (s : State) : (s.reoffer q).position = s.position := rfl

@[simp] theorem State.reoffer_ite (q : List Cmd) {c : Prop} [Decidable c] (s t : State) :
    State.reoffer q (if c then s else t) = if c then s.reoffer q else t.reoffer q := by
  split <;> rfl

/-- The outcome with the words `q` offered in its next state, where there is one. -/
def reofferOut (q : List Cmd) : Out → Out
  | .next t => .next (t.reoffer q)
  | .fault r => .fault r
  | .refused r => .refused r

@[simp] theorem reofferOut_next (q : List Cmd) (t : State) : reofferOut q (.next t) = .next (t.reoffer q) := rfl
@[simp] theorem reofferOut_fault (q : List Cmd) (r : Fault) : reofferOut q (.fault r) = .fault r := rfl
@[simp] theorem reofferOut_refused (q : List Cmd) (r : Refusal) : reofferOut q (.refused r) = .refused r := rfl

/-! ## The shared operations -/

@[simp] theorem wr_reoffer (q : List Cmd) (reg val : Byte) (l : Label) (s : State) :
    wr reg val l (s.reoffer q) = reofferOut q (wr reg val l s) := by
  unfold wr
  simp only [State.reoffer_link]
  split <;> rfl

/-- `RD` reads no offer unless its store does. -/
@[simp] theorem rd_reoffer (q : List Cmd) (reg : Byte) (store : Byte → State → State) (l : Label) (s : State) :
    rd reg store l (s.reoffer q) = reofferOut q (rd reg store l s) ↔
      (s.link = .ended → { store s.rx (s.reoffer q) with link := .idle, upc := l } =
        State.reoffer q { store s.rx s with link := .idle, upc := l }) := by
  unfold rd
  simp only [State.reoffer_link]
  split
  case h_1 h => simp only [h, reofferOut_next, reduceCtorEq, false_implies, iff_true]; rfl
  case h_2 h => simp [h]; rfl
  case h_3 h => simp [h]

@[simp] theorem wait_reoffer (q : List Cmd) (us : Nat) (l : Label) (s : State) :
    wait us l (s.reoffer q) = reofferOut q (wait us l s) := rfl

@[simp] theorem pulse_reoffer (q : List Cmd) (v : Level) (l : Label) (s : State) :
    pulse v l (s.reoffer q) = reofferOut q (pulse v l s) := rfl

@[simp] theorem storePixel_reoffer (q : List Cmd) (v : Byte) (l : Label) (s : State) :
    storePixel v l (s.reoffer q) = reofferOut q (storePixel v l s) := by
  unfold storePixel
  rw [State.reoffer_n]
  split <;> rfl

@[simp] theorem carryFrame_reoffer (q : List Cmd) (f : Frame) (ops : List BusOp) (s : State) :
    carryFrame f ops (s.reoffer q) = reofferOut q (carryFrame f ops s) := by
  unfold carryFrame
  simp only [State.reoffer_position, State.reoffer_busy]
  split
  case h_1 op _ => cases op <;> rfl
  case h_2 => rfl

@[simp] theorem pollAgain_reoffer (q : List Cmd) (l : Label) (s : State) :
    (s.reoffer q).pollAgain l = (s.pollAgain l).reoffer q := by
  unfold State.pollAgain
  simp only [State.reoffer_cfg, State.reoffer_polls, State.reoffer_ite]
  rfl

@[simp] theorem classify_reoffer (q : List Cmd) (s : State) : classify (s.reoffer q) = (classify s).reoffer q := by
  unfold classify
  simp only [State.reoffer_a, pollAgain_reoffer]
  split <;> rfl

@[simp] theorem gateArm_reoffer (q : List Cmd) (l : Label) (s : State) :
    gateArm l (s.reoffer q) = reofferOut q (gateArm l s) := wr_reoffer q _ _ l { s with polls := 0 }

@[simp] theorem gateTest_reoffer (q : List Cmd) (poll exit : Label) (s : State) :
    gateTest poll exit (s.reoffer q) = reofferOut q (gateTest poll exit s) := by
  simp only [gateTest, pollAgain_reoffer, reofferOut_next, State.reoffer_ite]
  rfl

@[simp] theorem enableWrite_reoffer (q : List Cmd) (s : State) :
    enableWrite (s.reoffer q) = reofferOut q (enableWrite s) := by
  unfold enableWrite
  simp only [State.reoffer_cfg, State.reoffer_idx, wr_reoffer]
  split <;> rfl

@[simp] theorem bulkTest_reoffer (q : List Cmd) (s : State) : bulkTest (s.reoffer q) = reofferOut q (bulkTest s) := by
  unfold bulkTest
  simp only [State.reoffer_cfg, State.reoffer_var]
  split <;> rfl

@[simp] theorem bulkApply_reoffer (q : List Cmd) (s : State) :
    bulkApply (s.reoffer q) = reofferOut q (bulkApply s) := by
  unfold bulkApply
  simp only [State.reoffer_bulkItem, wr_reoffer, wait_reoffer]
  split <;> rfl

/-! ## The commands, label by label

What is left of each label is an equation of two next states that differ in no field. -/

theorem execInit_reoffer (q : List Cmd) (v : Byte) (s : State) :
    execInit v (s.reoffer q) = reofferOut q (execInit v s) := by
  unfold execInit
  simp only [State.reoffer_upc]
  split <;> simp <;> intros <;> rfl

@[simp] theorem enablePhase_reoffer (q : List Cmd) (s : State) :
    enablePhase (s.reoffer q) = reofferOut q (enablePhase s) := by
  unfold enablePhase
  simp only [State.reoffer_upc]
  split <;> simp <;> intros <;> rfl

@[simp] theorem streamPhase_reoffer (q : List Cmd) (s : State) :
    streamPhase (s.reoffer q) = reofferOut q (streamPhase s) := by
  unfold streamPhase
  simp only [State.reoffer_upc]
  split <;> simp <;> intros <;> rfl

@[simp] theorem completionPhase_reoffer (q : List Cmd) (s : State) :
    completionPhase (s.reoffer q) = reofferOut q (completionPhase s) := by
  unfold completionPhase
  simp only [State.reoffer_upc]
  split <;> simp <;> intros <;> rfl

/-- An instruction does the same whatever is offered, and leaves the offers standing. -/
theorem exec_reoffer (q : List Cmd) (i : Instr) (s : State) : exec i (s.reoffer q) = reofferOut q (exec i s) := by
  cases i with
  | init v => exact execInit_reoffer q v s
  | wframe reg val => exact carryFrame_reoffer q _ _ s
  | rframe reg => exact carryFrame_reoffer q _ _ s
  | regWrite reg val =>
    simp only [exec, execRegWrite, State.reoffer_upc]
    split <;> simp <;> rfl
  | regRead reg =>
    simp only [exec, execRegRead, State.reoffer_upc]
    split <;> simp <;> intros <;> rfl
  | readMotion =>
    simp only [exec, execReadMotion, State.reoffer_upc]
    split <;> simp <;> intros <;> rfl
  | frameEnable =>
    simp only [exec, execFrameEnable, State.reoffer_upc]
    split
    · rfl
    · exact enablePhase_reoffer q s
    · rfl
  | frameStream =>
    simp only [exec, execFrameStream, State.reoffer_upc]
    split
    · rfl
    · exact streamPhase_reoffer q s
    · exact completionPhase_reoffer q s
    · rfl
  | frameRead =>
    simp only [exec, execFrameRead, State.reoffer_upc]
    split
    · rfl
    · exact enablePhase_reoffer q s
    · exact streamPhase_reoffer q s
    · exact completionPhase_reoffer q s
    · rfl
  | setLed on =>
    simp only [exec, execSetLed, State.reoffer_upc]
    split <;> simp <;> rfl

theorem runFrame_reoffer (q : List Cmd) (f : Frame) (s : State) :
    runFrame f (s.reoffer q) = reofferOut q (runFrame f s) := by
  unfold runFrame
  split
  · exact exec_reoffer q _ s
  · rfl

theorem runCommand_reoffer (q : List Cmd) (s : State) : runCommand (s.reoffer q) = reofferOut q (runCommand s) := by
  unfold runCommand
  simp only [State.reoffer_latched]
  split
  · exact exec_reoffer q _ s
  · rfl

/-- Settles O9: reset reads no offer, nor does the frame or the command a busy engine runs. -/
theorem offerWhileBusyHasNoEffect : Obligations.OfferWhileBusyHasNoEffect := by
  intro s q hb
  suffices h : step (s.reoffer q) = reofferOut q (step s) by
    rw [show ({ s with cmdIn := q } : State) = s.reoffer q from rfl, h]
    cases step s <;> rfl
  obtain ⟨hr, hs⟩ | ⟨hr, f, k, hl, hs⟩ | ⟨hr, hl, -, hs⟩ | ⟨-, -, hb', -⟩ := step_cases s
  · rw [hs, step_of_rst (s := s.reoffer q) hr]
    rfl
  · rw [hs, step_of_carrying (s := s.reoffer q) hr hl]
    exact runFrame_reoffer q f s.clock
  · rw [hs, step_of_busy (s := s.reoffer q) hr hl hb]
    exact runCommand_reoffer q s.clock
  · exact absurd hb (by simp [hb'])

end Sys2Proof.Machine
end

section
/-! PROOFS. The lines along a transaction (10_state.md R27; 40_bus_transaction.md R131, R133, R136 to R139): what one
operation does to chip-select and the session, and that each event of a wire frame keeps the invariant. -/

namespace Sys2Proof.Machine

/-! ## The lines by position -/

/-- Chip-select before event number `k` of a transaction that found it at `rest`. -/
def frameLevel (rest : Level) (k : Nat) : Level :=
  if k ≤ 1 then rest else if k ≤ 7 then .asserted else .deasserted

/-- The session is open before event number `k` of a transaction. -/
def frameSession (k : Nat) : Bool := decide (1 ≤ k) && decide (k ≤ 8)

theorem levelDue_of_carrying {s : State} {f : Frame} {k : Nat} (hl : s.link = .carrying f k) :
    s.levelDue = frameLevel (restLevel s.upc) k := by
  simp [State.levelDue, hl, frameLevel]

theorem sessionDue_of_carrying {s : State} {f : Frame} {k : Nat} (hl : s.link = .carrying f k) :
    s.sessionDue = frameSession k := by
  simp [State.sessionDue, hl, frameSession]

theorem lined_iff {s : State} : s.lined = true ↔ s.csl = s.levelDue ∧ s.session = s.sessionDue := by
  simp [State.lined]

/-! ## One operation -/

/-- Chip-select after an operation. -/
def BusOp.level (op : BusOp) (l : Level) : Level :=
  match op with
  | .csa => .asserted
  | .csd => .deasserted
  | .acq | .rel | .dly _ | .xfer _ _ => l

/-- Whether the session is open after an operation. -/
def BusOp.session (op : BusOp) (b : Bool) : Bool :=
  match op with
  | .acq => true
  | .rel => false
  | .csa | .csd | .dly _ | .xfer _ _ => b

/-- Where an operation may come: `ACQ` in a closed session, `REL` in an open one, a transfer in an open session with
chip-select asserted (R131, R133). -/
def BusOp.mayCome (op : BusOp) (l : Level) (b : Bool) : Bool :=
  match op with
  | .acq => !b
  | .rel => b
  | .xfer _ _ => b && l == .asserted
  | .csa | .csd | .dly _ => true

/-- An operation changes the lines, the reply, the sensor's inputs and the trace, and nothing else. -/
theorem busOp_eq (op : BusOp) (s : State) :
    ∃ rx replies xfers trace,
      s.busOp op = { s with csl := op.level s.csl, session := op.session s.session, rx := rx, replies := replies,
                            xfers := xfers, trace := trace } := by
  cases op <;> exact ⟨_, _, _, _, rfl⟩

/-! ## The two transactions -/

/-- A list of operations that takes the lines from each position to the next, each operation where it may come. -/
structure IsTransaction (ops : List BusOp) : Prop where
  long : 9 ≤ ops.length
  lines : ∀ (k : Nat) (op : BusOp) (rest : Level), ops[k]? = some op →
    op.level (frameLevel rest k) = frameLevel rest (k + 1) ∧ op.session (frameSession k) = frameSession (k + 1) ∧
    op.mayCome (frameLevel rest k) (frameSession k) = true

theorem txw_isTransaction (a d : Byte) : IsTransaction (txw a d) where
  long := by simp [txw]
  lines k op rest h := by
    have hk : k < 10 := (List.getElem?_eq_some_iff.mp h).1
    interval_cases k <;> cases h <;> exact ⟨rfl, rfl, rfl⟩

theorem txr_isTransaction (a : Byte) : IsTransaction (txr a) where
  long := by simp [txr]
  lines k op rest h := by
    have hk : k < 9 := (List.getElem?_eq_some_iff.mp h).1
    interval_cases k <;> cases h <;> exact ⟨rfl, rfl, rfl⟩

@[simp] theorem frameLength_wframeBits (reg : RegAddr) (val : Byte) : frameLength (wframeBits reg val) = 10 := by
  have hreg : (regByte reg).setWidth 7 = reg := by simp [regByte]
  rw [← hreg, wframeBits_setWidth]
  simp [frameLength]

@[simp] theorem frameLength_rframeBits (reg : RegAddr) : frameLength (rframeBits reg) = 9 := by
  have hreg : (regByte reg).setWidth 7 = reg := by simp [regByte]
  rw [← hreg, rframeBits_setWidth]
  simp [frameLength]

/-- What a frame on the link can do: the operation of its transaction that is due, and the link goes on. -/
theorem runFrame_next {f : Frame} {k : Nat} {s t : State} (hl : s.link = .carrying f k)
    (h : runFrame f s = .next t) :
    ∃ g ops op, IsTransaction ops ∧ frameLength g = ops.length ∧ ops[k]? = some op ∧
      t = { s.busOp op with link := linkAfter g k ops.length s.busy } := by
  have hk : s.position = k := by simp [State.position, hl]
  unfold runFrame at h
  split at h
  case h_2 => cases h
  case h_1 i hd =>
    obtain rfl | ⟨rfl, -⟩ := decodeFrame_cases hd
    · obtain ⟨op, hop, ht⟩ := carryFrame_next h
      exact ⟨_, _, op, txw_isTransaction _ _, by simp [txw], hk ▸ hop, hk ▸ ht⟩
    · obtain ⟨op, hop, ht⟩ := carryFrame_next h
      exact ⟨_, _, op, txr_isTransaction _, by simp [txr], hk ▸ hop, hk ▸ ht⟩

/-- After an event of a transaction the link stands at the next one, or after the last one is ended for a busy engine and
idle for one that waits for nothing. -/
theorem linkAfter_cases (g : Frame) (k len : Nat) (busy : Bool) :
    (k + 1 < len ∧ linkAfter g k len busy = .carrying g (k + 1)) ∨
    (len ≤ k + 1 ∧ busy = true ∧ linkAfter g k len busy = .ended) ∨
    (len ≤ k + 1 ∧ busy = false ∧ linkAfter g k len busy = .idle) := by
  unfold linkAfter
  by_cases hk : k + 1 < len
  · exact .inl ⟨hk, if_pos hk⟩
  · cases busy
    · exact .inr (.inr ⟨by omega, rfl, by simp [hk]⟩)
    · exact .inr (.inl ⟨by omega, rfl, by simp [hk]⟩)

/-- After the last event chip-select is deasserted and the session closed. -/
theorem lines_at_end {k : Nat} (hk : 9 ≤ k) (rest : Level) :
    frameLevel rest k = .deasserted ∧ frameSession k = false := by
  simp [frameLevel, frameSession, show ¬k ≤ 1 by omega, show ¬k ≤ 7 by omega, show ¬k ≤ 8 by omega]

theorem State.Inv.upc_idle {s : State} (h : s.Inv) (hb : s.busy = false) : s.upc = .idle := by
  simpa [State.sequenced, hb] using h.sequenced

/-- While a frame is on the link the lines are where its position puts them. -/
theorem State.Inv.linesAt {s : State} (h : s.Inv) {f : Frame} {k : Nat} (hl : s.link = .carrying f k) :
    s.csl = frameLevel (restLevel s.upc) k ∧ s.session = frameSession k := by
  obtain ⟨hcsl, hses⟩ := lined_iff.mp h.lined
  exact ⟨hcsl.trans (levelDue_of_carrying hl), hses.trans (sessionDue_of_carrying hl)⟩

/-- The operation that is due may come. -/
theorem State.Inv.mayCome {s : State} (h : s.Inv) {f : Frame} {k : Nat} (hl : s.link = .carrying f k)
    {ops : List BusOp} {op : BusOp} (htx : IsTransaction ops) (hop : ops[k]? = some op) :
    op.mayCome s.csl s.session = true := by
  obtain ⟨hcsl, hses⟩ := h.linesAt hl
  rw [hcsl, hses]
  obtain ⟨-, -, hmay⟩ := htx.lines k op (restLevel s.upc) hop
  exact hmay

/-- While a frame is on the link of a busy engine its micro-step is a `WR` or an `RD`. -/
theorem State.Inv.transacts {s : State} (h : s.Inv) {f : Frame} {k : Nat} (hl : s.link = .carrying f k) :
    (!s.busy || s.transacts) = true := by
  have hlinked := h.linked
  simp only [State.linked, hl, Bool.and_eq_true] at hlinked
  exact hlinked.2

/-- An operation that leaves the link and the lines where they are due keeps the invariant. -/
theorem State.Inv.busOp {s : State} (h : s.Inv) (op : BusOp) (link : Link)
    (hlinked : State.linked { s with link := link } = true)
    (hlevel : op.level s.csl = State.levelDue { s with link := link })
    (hsession : op.session s.session = State.sessionDue { s with link := link }) :
    State.Inv { s.busOp op with link := link } := by
  obtain ⟨rx, replies, xfers, trace, hbus⟩ := busOp_eq op s
  rw [hbus]
  exact
    { sequenced := h.sequenced, linked := hlinked, lined := lined_iff.mpr ⟨hlevel, hsession⟩,
      reported := h.reported, indexed := h.indexed, counted := h.counted, calibrated := h.calibrated,
      stored := h.stored }

/-- An event of a wire frame keeps the invariant. -/
theorem runFrame_inv {f : Frame} {k : Nat} {s : State} (h : s.Inv) (hl : s.link = .carrying f k) :
    Ensures State.Inv (runFrame f s) := by
  refine ensures_iff.mpr fun t ht => ?_
  obtain ⟨g, ops, op, htx, hlen, hop, rfl⟩ := runFrame_next hl ht
  obtain ⟨hlevel, hsession, -⟩ := htx.lines k op (restLevel s.upc) hop
  obtain ⟨hcsl, hses⟩ := h.linesAt hl
  rw [← hcsl] at hlevel
  rw [← hses] at hsession
  have hlong := htx.long
  have hwait := h.transacts hl
  obtain ⟨hk, heq⟩ | ⟨hk, hb, heq⟩ | ⟨hk, hb, heq⟩ := linkAfter_cases g k ops.length s.busy
  · have hlinked : State.linked { s with link := .carrying g (k + 1) } = true := by
      simp only [State.linked, hlen, hk, decide_true, Bool.true_and]
      exact hwait
    exact heq ▸ h.busOp op (.carrying g (k + 1)) hlinked hlevel hsession
  · obtain ⟨hd, hc⟩ := lines_at_end (k := k + 1) (by omega) (restLevel s.upc)
    have hlinked : State.linked { s with link := .ended } = true := by
      simp only [hb, Bool.not_true, Bool.false_or] at hwait
      simp only [State.linked, hb, Bool.true_and]
      exact hwait
    exact heq ▸ h.busOp op .ended hlinked (hlevel.trans hd) (hsession.trans hc)
  · obtain ⟨hd, hc⟩ := lines_at_end (k := k + 1) (by omega) (restLevel s.upc)
    have hrest : restLevel s.upc = .deasserted := by rw [h.upc_idle hb]; rfl
    exact heq ▸ h.busOp op .idle rfl (hlevel.trans (hd.trans hrest.symm)) (hsession.trans hc)

end Sys2Proof.Machine
end

section
/-! PROOFS. Rules for the invariant at a micro-step of a running command: what a `WR`, an `RD`, a wait, a pulse edge, a
computation and an end have to show of the label they go on to (10_state.md R22, R26, R27; 41_register_access.md
R152). -/

namespace Sys2Proof.Machine

/-! ## The parts of the invariant that a micro-step carries over -/

/-- INIT executes: `ISTATE` is Running (R22, R171). -/
def inInit (l : Label) : Bool := isInitLabel l && l != .i00

/-- The registers a command's micro-steps leave alone, but for INIT's first, the pulse edges and the end of a command. -/
def State.standing (s : State) : Byte × Byte × Byte × Bool × Bool × ErrCode × InitState × Byte × Bool :=
  (s.op, s.argReg, s.argVal, s.busy, s.ok, s.err, s.istate, s.var, s.session)

theorem reported_iff {s : State} :
    s.reported = true ↔
      (s.ok = true → s.err = .none) ∧ (s.istate == .running) = inInit s.upc ∧
      (inInit s.upc = true → s.var = s.argVal) := by
  cases hok : s.ok <;> cases hin : isInitLabel s.upc && s.upc != .i00 <;>
    simp [State.reported, inInit, hok, hin, and_assoc]

theorem stored_iff {s : State} :
    s.stored = true ↔ Memory.wf s.fb = true ∧ (s.written.pixcnt = true → s.pixcnt.toNat ≤ 1225) := by
  cases hw : s.written.pixcnt <;> simp [State.stored, hw]

/-- The list index, the loop counters and the calibration values are in the ranges of the label `UPC` stands at. -/
def State.ranged (s : State) : Bool := s.indexed && s.counted && s.calibrated

theorem ranged_iff {s : State} : s.ranged = true ↔ s.indexed = true ∧ s.counted = true ∧ s.calibrated = true := by
  simp [State.ranged, and_assoc]

/-- At a label that ranges some of the three, the others hold by evaluation. -/
theorem ranged_of {s : State} (hidx : s.indexed = true := by rfl) (hcnt : s.counted = true := by rfl)
    (hcal : s.calibrated = true := by rfl) : s.ranged = true :=
  ranged_iff.mpr ⟨hidx, hcnt, hcal⟩

theorem labelOf_idle (i : Instr) : labelOf i .idle = false := by cases i <;> rfl

/-- The invariant of a command between two of its transactions. -/
theorem inv_of_running {i : Instr} {t : State} (hbusy : t.busy = true) (hdec : decodeCommand t.latched = .ok i)
    (hlabel : labelOf i t.upc = true) (hlink : t.link = .idle) (hlevel : t.csl = restLevel t.upc)
    (hsession : t.session = false) (hreported : t.reported = true) (hranged : t.ranged = true)
    (hstored : t.stored = true) : t.Inv := by
  obtain ⟨hidx, hcnt, hcal⟩ := ranged_iff.mp hranged
  have hne : t.upc ≠ .idle := fun hu => by simp [hu, labelOf_idle] at hlabel
  exact
    { sequenced := by simp [State.sequenced, hbusy, hdec, hlabel, hne]
      linked := by simp [State.linked, hlink]
      lined := lined_iff.mpr (by simp [State.levelDue, State.sessionDue, hlink, hlevel, hsession])
      reported := hreported, indexed := hidx, counted := hcnt, calibrated := hcal, stored := hstored }

/-- The invariant of an idle engine. -/
theorem inv_of_idle {t : State} (hbusy : t.busy = false) (hupc : t.upc = .idle) (hlink : t.link = .idle)
    (hcsl : t.csl = .deasserted) (hsession : t.session = false) (hok : t.ok = true → t.err = .none)
    (hist : t.istate ≠ .running) (hstored : t.stored = true) : t.Inv where
  sequenced := by simp [State.sequenced, hbusy, hupc]
  linked := by simp [State.linked, hlink]
  lined := lined_iff.mpr (by simp [State.levelDue, State.sessionDue, hlink, hcsl, hsession, hupc, restLevel])
  reported := reported_iff.mpr ⟨hok, by simp [hupc, inInit, isInitLabel, hist], by simp [hupc, inInit, isInitLabel]⟩
  indexed := by simp [State.indexed, hupc]
  counted := by simp [State.counted, hupc]
  calibrated := by simp [State.calibrated, hupc]
  stored := hstored

/-! ## A running command -/

/-- The command `i` runs under the invariant, at one of its labels and with no frame on the link. -/
structure Running (i : Instr) (s : State) : Prop where
  inv : s.Inv
  busy : s.busy = true
  decodes : decodeCommand s.latched = .ok i
  free : ∀ f k, s.link ≠ .carrying f k

section rules

variable {i : Instr} {s : State} (h : Running i s)
include h

theorem Running.label : labelOf i s.upc = true := by
  have hseq := h.inv.sequenced
  simp only [State.sequenced, h.busy, h.decodes, Bool.and_eq_true, Bool.not_true, Bool.false_or] at hseq
  exact hseq.2

theorem Running.upc_ne_idle : s.upc ≠ .idle := fun hu => by
  have hlabel := h.label
  simp [hu, labelOf_idle] at hlabel

theorem Running.session : s.session = false := by
  rw [(lined_iff.mp h.inv.lined).2, State.sessionDue]
  cases hl : s.link with
  | carrying f k => exact absurd hl (h.free f k)
  | idle => rfl
  | ended => rfl

/-- A micro-step that is no transaction finds the link idle. -/
theorem Running.link_idle (htr : s.transacts = false) : s.link = .idle := by
  have hlinked := h.inv.linked
  cases hl : s.link with
  | carrying f k => exact absurd hl (h.free f k)
  | idle => rfl
  | ended => simp [State.linked, hl, htr] at hlinked

theorem Running.csl_of_idle (hl : s.link = .idle) : s.csl = restLevel s.upc := by
  rw [(lined_iff.mp h.inv.lined).1, State.levelDue, hl]

theorem Running.csl_of_ended (hl : s.link = .ended) : s.csl = .deasserted := by
  rw [(lined_iff.mp h.inv.lined).1, State.levelDue, hl]

/-- Going on to a label of the same command, inside INIT or outside as before. -/
theorem Running.lands {t : State} (hsame : t.standing = s.standing) (hlabel : labelOf i t.upc = true)
    (hinit : inInit t.upc = inInit s.upc) (hlink : t.link = .idle) (hlevel : t.csl = restLevel t.upc)
    (hranged : t.ranged = true) (hstored : t.stored = true) : t.Inv := by
  simp only [State.standing, Prod.mk.injEq] at hsame
  obtain ⟨hop, hreg, hval, hbusy, hok, herr, hist, hvar, hses⟩ := hsame
  have hdec : decodeCommand t.latched = .ok i := by
    rw [State.latched, hop, hreg, hval]
    exact h.decodes
  have hreported : t.reported = true := by
    have hs := reported_iff.mp h.inv.reported
    rw [← hok, ← herr, ← hist, ← hvar, ← hval, ← hinit] at hs
    exact reported_iff.mpr hs
  exact inv_of_running (hbusy.trans h.busy) hdec hlabel hlink hlevel (hses.trans h.session)
    hreported hranged hstored

/-! ### What is known of the registers at a label -/

variable {l : Label} (hu : s.upc = l)
include hu

theorem Running.indexedAt : State.indexed { s with upc := l } = true := by
  rw [← hu]; exact h.inv.indexed

theorem Running.countedAt : State.counted { s with upc := l } = true := by
  rw [← hu]; exact h.inv.counted

theorem Running.calibratedAt : State.calibrated { s with upc := l } = true := by
  rw [← hu]; exact h.inv.calibrated

theorem Running.rangedAt : State.ranged { s with upc := l } = true :=
  ranged_of (h.indexedAt hu) (h.countedAt hu) (h.calibratedAt hu)

/-! ### The rules

What is asked of the labels a rule goes between is closed by evaluation, and so is what is asked of the registers at a
label with no range of its own. -/

/-- A frame goes on the link at the start of a `WR` or an `RD`. -/
theorem Running.sends {f : Frame} (hf : 0 < frameLength f) (hl : s.link = .idle)
    (htr : State.transacts { s with upc := l } = true) : State.Inv { s with link := .carrying f 0 } := by
  subst hu
  have hlevel := h.csl_of_idle hl
  have htr' : State.transacts { s with link := .carrying f 0 } = true := htr
  exact
    { sequenced := h.inv.sequenced, linked := by simp [State.linked, hf, htr'],
      lined := lined_iff.mpr ⟨hlevel, h.session⟩, reported := h.inv.reported, indexed := h.inv.indexed,
      counted := h.inv.counted, calibrated := h.inv.calibrated, stored := h.inv.stored }

/-- `X <- RD(reg)`. -/
theorem Running.read {reg : Byte} {store : Byte → State → State} {next : Label}
    (hlabel : labelOf i next = true := by rfl)
    (htr : State.transacts { s with upc := l } = true := by rfl)
    (hinit : inInit next = inInit l := by rfl) (hrest : restLevel next = .deasserted := by rfl)
    (hsame : (store s.rx s).standing = s.standing := by rfl) (hcsl : (store s.rx s).csl = s.csl := by rfl)
    (hranged : State.ranged { store s.rx s with upc := next } = true := by rfl)
    (hstored : (store s.rx s).stored = s.stored := by rfl) :
    Ensures State.Inv (rd reg store next s) := by
  refine (ensures_rd _ _ _ _ _).mpr ⟨fun hl => h.sends hu (by simp [frameLength]) hl htr, fun hl => ?_⟩
  exact h.lands hsame hlabel (by rw [hu]; exact hinit) rfl ((hcsl.trans (h.csl_of_ended hl)).trans hrest.symm)
    hranged (hstored.trans h.inv.stored)

/-- `WR(reg, val)`. -/
theorem Running.write {reg val : Byte} {next : Label}
    (hlabel : labelOf i next = true := by rfl)
    (htr : State.transacts { s with upc := l } = true := by rfl)
    (hinit : inInit next = inInit l := by rfl) (hrest : restLevel next = .deasserted := by rfl)
    (hranged : State.ranged { s with upc := next } = true := by rfl) :
    Ensures State.Inv (wr reg val next s) := by
  refine (ensures_wr _ _ _ _ _).mpr ⟨fun hl => h.sends hu (by simp [frameLength]) hl htr, fun hl => ?_⟩
  exact h.lands (t := { s with link := .idle, upc := next }) rfl hlabel (by rw [hu]; exact hinit) rfl
    ((h.csl_of_ended hl).trans hrest.symm) hranged h.inv.stored

/-- A pulse edge. -/
theorem Running.pulse {v : Level} {next : Label}
    (hlabel : labelOf i next = true := by rfl)
    (htr : State.transacts { s with upc := l } = false := by rfl)
    (hinit : inInit next = inInit l := by rfl) (hrest : v = restLevel next := by rfl)
    (hranged : State.ranged { s with upc := next } = true := by rfl) :
    Ensures State.Inv (Machine.pulse v next s) := by
  subst hu
  exact h.lands (t := (s.driveCs v).goto next) rfl hlabel hinit (h.link_idle htr) hrest hranged h.inv.stored

/-- A micro-step that touches neither the lines nor the link. -/
theorem Running.stores {t : State} (hstored : t.stored = true) (hlabel : labelOf i t.upc = true := by rfl)
    (htr : State.transacts { s with upc := l } = false := by rfl)
    (hinit : inInit t.upc = inInit l := by rfl) (hrest : restLevel t.upc = restLevel l := by rfl)
    (hsame : t.standing = s.standing := by rfl) (hcsl : t.csl = s.csl := by rfl) (hlink : t.link = s.link := by rfl)
    (hranged : t.ranged = true := by rfl) :
    t.Inv := by
  subst hu
  have hl : s.link = .idle := h.link_idle htr
  exact h.lands hsame hlabel hinit (hlink.trans hl) (hcsl.trans ((h.csl_of_idle hl).trans hrest.symm)) hranged
    hstored

/-- A micro-step that moreover leaves the frame buffer and `PIXCNT` as they are. -/
theorem Running.computes {t : State} (hlabel : labelOf i t.upc = true := by rfl)
    (htr : State.transacts { s with upc := l } = false := by rfl)
    (hinit : inInit t.upc = inInit l := by rfl) (hrest : restLevel t.upc = restLevel l := by rfl)
    (hsame : t.standing = s.standing := by rfl) (hcsl : t.csl = s.csl := by rfl) (hlink : t.link = s.link := by rfl)
    (hranged : t.ranged = true := by rfl)
    (hstored : t.stored = s.stored := by rfl) : t.Inv :=
  h.stores hu (hstored.trans h.inv.stored) hlabel htr hinit hrest hsame hcsl hlink hranged

/-- A wait. -/
theorem Running.wait {us : Nat} {next : Label} (hlabel : labelOf i next = true := by rfl)
    (htr : State.transacts { s with upc := l } = false := by rfl)
    (hinit : inInit next = inInit l := by rfl) (hrest : restLevel next = restLevel l := by rfl)
    (hranged : State.ranged { s with upc := next } = true := by rfl) :
    Ensures State.Inv (Machine.wait us next s) :=
  h.computes hu (t := (s.emit (.dly us)).goto next) hlabel htr hinit hrest rfl rfl rfl hranged rfl

/-- The end of a command. -/
theorem Running.ends {t : State} (hok : t.ok = true → t.err = .none) (hist : t.istate ≠ .running)
    (htr : State.transacts { s with upc := l } = false := by rfl) (hrest : restLevel l = .deasserted := by rfl)
    (hbusy : t.busy = false := by rfl) (hupc : t.upc = .idle := by rfl) (hlink : t.link = s.link := by rfl)
    (hcsl : t.csl = s.csl := by rfl) (hsession : t.session = s.session := by rfl)
    (hstored : t.stored = s.stored := by rfl) : t.Inv := by
  subst hu
  have hl : s.link = .idle := h.link_idle htr
  exact inv_of_idle hbusy hupc (hlink.trans hl) (hcsl.trans ((h.csl_of_idle hl).trans hrest))
    (hsession.trans h.session) hok hist (hstored.trans h.inv.stored)

/-- Outside INIT `ISTATE` is not Running. -/
theorem Running.istate (hinit : inInit l = false) : s.istate ≠ .running := by
  obtain ⟨-, hrun, -⟩ := reported_iff.mp h.inv.reported
  rw [hu, hinit] at hrun
  exact fun heq => by simp [heq] at hrun

/-- `done` of any command but INIT. -/
theorem Running.done (hinit : inInit l = false := by rfl)
    (htr : State.transacts { s with upc := l } = false := by rfl)
    (hrest : restLevel l = .deasserted := by rfl) : s.done.Inv :=
  h.ends hu (fun _ => rfl) (h.istate hu hinit) htr hrest

/-- A polling loop goes round again, or its bound ends the command. -/
theorem Running.pollAgain {next : Label} (hlabel : labelOf i next = true := by rfl)
    (htr : State.transacts { s with upc := l } = false := by rfl)
    (hout : inInit l = false := by rfl) (hinit : inInit next = inInit l := by rfl)
    (hrest : restLevel next = restLevel l := by rfl) (hdown : restLevel l = .deasserted := by rfl)
    (hranged : State.ranged { s with upc := next } = true := by rfl) : (s.pollAgain next).Inv := by
  obtain ⟨-, heq⟩ | ⟨-, heq⟩ := pollAgain_cases next s
  · exact heq ▸ h.ends hu (t := s.raiseFailed .pollLimit) (fun hok => by simp at hok) (h.istate hu hout) htr hdown
  · exact heq ▸ h.computes hu (t := s.goto next) hlabel htr hinit hrest rfl rfl rfl hranged rfl

end rules

end Sys2Proof.Machine
end

section
/-! PROOFS. Every micro-step of every command keeps the invariant, label by label (41_register_access.md R154, R155;
42_init.md R171; 43_motion.md R220; 44_frame.md R232, R236, R240; 45_led.md R260). -/

namespace Sys2Proof.Machine

/-! ## The ranges of the calibration values, the counters and the lists -/

theorem c1Adjust_range (c : BitVec 9) (hc : c.toNat ≤ 255) : 14 ≤ (c1Adjust c).toNat ∧ (c1Adjust c).toNat ≤ 266 := by
  revert c; decide

theorem c1Clamp_range (c : BitVec 9) (hc : 14 ≤ c.toNat) : 14 ≤ (c1Clamp c).toNat ∧ (c1Clamp c).toNat ≤ 63 := by
  rw [c1Clamp_eq]
  split
  · exact ⟨hc, by assumption⟩
  · decide

theorem c2Scale_range (c : BitVec 14) (hc : c.toNat ≤ 255) : (c2Scale c).toNat ≤ 11475 := by
  rw [c2Scale, BitVec.toNat_mul]
  exact (Nat.mod_le _ _).trans (Nat.mul_le_mul_right 45 hc)

/-- The counters of the streaming loop are wide enough for its 1225 iterations (R236, R239). -/
theorem counter_succ {c : BitVec 11} (hc : c.toNat < 1225) : (c + 1#11).toNat = c.toNat + 1 := by
  rw [BitVec.toNat_add_of_lt (by simp; omega)]
  rfl

/-- The variants that pass I43 have a list (R184). -/
theorem bulkItems_isSome (p : Params) {code : Byte} (h : variantUnsupported code = false) :
    (bulkItems p code).isSome = true := by
  unfold bulkItems
  cases hv : variantOf code with
  | none => simp [variantUnsupported, hv] at h
  | some v => cases v <;> rfl

/-! ## Each command -/

theorem execRegWrite_inv {reg val : Byte} {s : State} (h : Running (.regWrite reg val) s) :
    Ensures State.Inv (execRegWrite reg val s) := by
  unfold execRegWrite
  split
  next hu => exact absurd hu h.upc_ne_idle
  next hu => exact h.write hu
  next hu => exact h.done hu
  · exact ensures_fault _ _

theorem execRegRead_inv {reg : Byte} {s : State} (h : Running (.regRead reg) s) :
    Ensures State.Inv (execRegRead reg s) := by
  unfold execRegRead
  split
  next hu => exact absurd hu h.upc_ne_idle
  next hu => exact h.read hu
  next hu => exact h.done hu
  · exact ensures_fault _ _

theorem execReadMotion_inv {s : State} (h : Running .readMotion s) : Ensures State.Inv (execReadMotion s) := by
  unfold execReadMotion
  split
  next hu => exact absurd hu h.upc_ne_idle
  iterate 5 next hu => exact h.read hu
  next hu => exact h.done hu
  · exact ensures_fault _ _

theorem execSetLed_inv {on : Bool} {s : State} (h : Running (.setLed on) s) :
    Ensures State.Inv (execSetLed on s) := by
  unfold execSetLed
  split
  next hu => exact absurd hu h.upc_ne_idle
  next hu => exact h.wait hu
  iterate 3 next hu => exact h.write hu
  next hu => exact h.done hu
  · exact ensures_fault _ _

/-- The count of polling reads is no part of the invariant. -/
theorem Running.withPolls {i : Instr} {s : State} (h : Running i s) (k : Nat) : Running i { s with polls := k } where
  inv :=
    { sequenced := h.inv.sequenced, linked := h.inv.linked, lined := h.inv.lined, reported := h.inv.reported,
      indexed := h.inv.indexed, counted := h.inv.counted, calibrated := h.inv.calibrated, stored := h.inv.stored }
  busy := h.busy
  decodes := h.decodes
  free := h.free

/-- The ready gate polls again or goes on (R231). -/
theorem gateTest_inv {poll exit : Label} {s : State} (hpoll : (s.pollAgain poll).Inv) (hexit : (s.goto exit).Inv) :
    Ensures State.Inv (gateTest poll exit s) := by
  unfold gateTest
  split
  · exact hpoll
  · exact hexit

/-! ## The phases of the frame protocol

A phase is shared by two commands: `hphase` says that its labels are labels of the command that runs. -/

theorem enablePhase_inv {i : Instr} {s : State} (h : Running i s)
    (hphase : ∀ l, framePhase l = .enable → labelOf i l = true)
    (hexit : s.op ≠ 0x05#8 → labelOf i .s0 = true) : Ensures State.Inv (enablePhase s) := by
  unfold enablePhase
  split
  next hu => exact h.computes hu (hlabel := hphase .e1 rfl)
  next hu =>
    have hidx : s.idx ≤ 9 := by simpa [State.indexed] using h.indexedAt hu
    by_cases hnine : s.idx = 9
    · rw [if_pos hnine]
      exact h.computes hu (t := { s with upc := .eg0 }) (hlabel := hphase .eg0 rfl)
    · rw [if_neg hnine]
      exact h.computes hu (t := { s with upc := .e2 }) (hlabel := hphase .e2 rfl)
        (hranged := ranged_of (hidx := decide_eq_true (show s.idx < 9 by omega)))
  next hu =>
    unfold enableWrite
    split
    · exact h.write hu (hlabel := hphase .e3 rfl) (hranged := (h.rangedAt hu :))
    · exact ensures_fault _ _
  next hu =>
    have hidx : s.idx < 9 := by simpa [State.indexed] using h.indexedAt hu
    exact h.computes hu (hlabel := hphase .e1 rfl)
      (hranged := ranged_of (hidx := decide_eq_true (show s.idx + 1 ≤ 9 by omega)))
  next hu => exact h.write hu (hlabel := hphase .eg1 rfl)
  next hu => exact (h.withPolls 0).write hu (hlabel := hphase .eg2 rfl)
  next hu => exact h.read hu (hlabel := hphase .eg3 rfl)
  next hu =>
    exact gateTest_inv (h.pollAgain hu (hlabel := hphase .eg2 rfl))
      (h.computes hu (t := s.goto .e4) (hlabel := hphase .e4 rfl))
  next hu => exact h.wait hu (hlabel := hphase .e5 rfl)
  next hu =>
    split
    · exact h.done hu
    next hop => exact h.computes hu (t := { s with upc := .s0 }) (hlabel := hexit hop)
  · exact ensures_fault _ _

theorem streamPhase_inv {i : Instr} {s : State} (h : Running i s)
    (hphase : ∀ l, framePhase l = .stream → labelOf i l = true)
    (hexit : labelOf i .cg0 = true) : Ensures State.Inv (streamPhase s) := by
  unfold streamPhase
  split
  next hu => exact h.computes hu (hlabel := hphase .s1 rfl)
  next hu =>
    obtain ⟨hiter, hn⟩ : s.iter.toNat ≤ 1225 ∧ s.n.toNat ≤ s.iter.toNat := by
      simpa [State.counted] using h.countedAt hu
    have hdone : loopDone s.iter = true ↔ s.iter.toNat = 1225 := by
      rw [loopDone, beq_iff_eq, ← BitVec.toNat_inj]
      rfl
    split
    next hlast =>
      have hcount := hdone.mp hlast
      exact h.computes hu (t := { s with upc := .s8 }) (hlabel := hphase .s8 rfl)
        (hranged := ranged_of (hcnt := by simp [State.counted]; omega))
    next hmore =>
      have hcount := mt hdone.mpr hmore
      exact h.computes hu (t := { s with polls := 0, upc := .s2 }) (hlabel := hphase .s2 rfl)
        (hranged := ranged_of (hcnt := by simp [State.counted]; omega))
  next hu => exact h.read hu (hlabel := hphase .s3 rfl) (hranged := (h.rangedAt hu :))
  next hu =>
    show (classify s).Inv
    unfold classify
    split
    · exact h.computes hu (t := { s with upc := .s4 }) (hlabel := hphase .s4 rfl) (hranged := (h.rangedAt hu :))
    · exact h.pollAgain hu (hlabel := hphase .s2 rfl) (hranged := (h.rangedAt hu :))
    · obtain ⟨hiter, hn⟩ : s.iter.toNat < 1225 ∧ s.n.toNat ≤ s.iter.toNat := by
        simpa [State.counted] using h.countedAt hu
      exact h.computes hu (t := { s with upc := .s7 }) (hlabel := hphase .s7 rfl)
        (hranged := ranged_of (hcnt := by simp [State.counted]; omega))
  next hu => exact h.read hu (hlabel := hphase .s5 rfl) (hranged := (h.rangedAt hu :))
  next hu =>
    refine ensures_iff.mpr fun t ht => ?_
    obtain ⟨hn, rfl⟩ := storePixel_next ht
    obtain ⟨hfb, hpix⟩ := stored_iff.mp h.inv.stored
    exact h.stores hu (stored_iff.mpr ⟨Memory.wf_write s.fb s.n.toNat _ hn hfb, hpix⟩) (hlabel := hphase .s6 rfl)
      (hranged := (h.rangedAt hu :))
  next hu =>
    obtain ⟨hiter, hn⟩ : s.iter.toNat < 1225 ∧ s.n.toNat ≤ s.iter.toNat := by
      simpa [State.counted] using h.countedAt hu
    have hsucc : (s.n + 1#11).toNat = s.n.toNat + 1 := counter_succ (by omega)
    exact h.computes hu (hlabel := hphase .s7 rfl)
      (hranged := ranged_of (hcnt := by simp [State.counted, hsucc]; omega))
  next hu =>
    obtain ⟨hiter, hn⟩ : s.iter.toNat < 1225 ∧ s.n.toNat ≤ s.iter.toNat + 1 := by
      simpa [State.counted] using h.countedAt hu
    have hsucc : (s.iter + 1#11).toNat = s.iter.toNat + 1 := counter_succ (by omega)
    exact h.computes hu (hlabel := hphase .s1 rfl)
      (hranged := ranged_of (hcnt := by simp [State.counted, hsucc]; omega))
  next hu =>
    obtain ⟨-, hn⟩ : s.iter.toNat = 1225 ∧ s.n.toNat ≤ 1225 := by simpa [State.counted] using h.countedAt hu
    obtain ⟨hfb, -⟩ := stored_iff.mp h.inv.stored
    exact h.stores hu (stored_iff.mpr ⟨hfb, fun _ => hn⟩) (hlabel := hexit)
  · exact ensures_fault _ _

theorem completionPhase_inv {i : Instr} {s : State} (h : Running i s)
    (hphase : ∀ l, framePhase l = .completion → labelOf i l = true) : Ensures State.Inv (completionPhase s) := by
  unfold completionPhase
  split
  next hu => exact h.write hu (hlabel := hphase .cg1 rfl)
  next hu => exact (h.withPolls 0).write hu (hlabel := hphase .cg2 rfl)
  next hu => exact h.read hu (hlabel := hphase .cg3 rfl)
  next hu =>
    exact gateTest_inv (h.pollAgain hu (hlabel := hphase .cg2 rfl))
      (h.computes hu (t := s.goto .c4) (hlabel := hphase .c4 rfl))
  next hu => exact h.done hu
  · exact ensures_fault _ _

theorem bulkTest_inv {v : Byte} {s : State} (h : Running (.init v) s) (hu : s.upc = .i45) :
    Ensures State.Inv (bulkTest s) := by
  have hidx := h.indexedAt hu
  unfold bulkTest
  split
  next list hlist =>
    have hle : s.idx ≤ list.length := by simpa [State.indexed, hlist] using hidx
    by_cases hlast : s.idx = list.length
    · rw [if_pos hlast]
      exact h.computes hu (t := { s with upc := .i48 })
    · rw [if_neg hlast]
      exact h.computes hu (t := { s with upc := .i46 })
        (hranged := ranged_of (hidx := by simp [State.indexed, hlist]; omega))
  · exact ensures_fault _ _

theorem bulkApply_inv {v : Byte} {s : State} (h : Running (.init v) s) (hu : s.upc = .i46) :
    Ensures State.Inv (bulkApply s) := by
  have hat : State.bulkItem { s with upc := .i46 } = s.bulkItem := rfl
  unfold bulkApply
  split
  next hitem => exact h.write hu (htr := by simp [State.transacts, hat, hitem]) (hranged := (h.rangedAt hu :))
  next hitem => exact h.wait hu (htr := by simp [State.transacts, hat, hitem]) (hranged := (h.rangedAt hu :))
  · exact ensures_fault _ _

theorem execInit_inv {v : Byte} {s : State} (h : Running (.init v) s) (hv : v = s.argVal) :
    Ensures State.Inv (execInit v s) := by
  unfold execInit
  split
  next hu => exact absurd hu h.upc_ne_idle
  -- I00: INIT begins to execute
  next hu =>
    have hl : s.link = .idle := h.link_idle (by rw [State.transacts, hu])
    obtain ⟨hok, -, -⟩ := reported_iff.mp h.inv.reported
    exact inv_of_running (t := { s with var := v, istate := .running, upc := .i01 }) h.busy h.decodes rfl hl
      ((h.csl_of_idle hl).trans (by rw [hu]; rfl)) h.session (reported_iff.mpr ⟨hok, rfl, fun _ => hv⟩) rfl
      h.inv.stored
  -- step 1: the pulse on chip-select (R172)
  next hu => exact h.pulse hu
  next hu => exact h.wait hu
  next hu => exact h.pulse hu
  next hu => exact h.wait hu
  next hu => exact h.pulse hu
  next hu => exact h.wait hu
  -- steps 2 and 3: power-on and the identity probe (R173, R174)
  next hu => exact h.write hu
  next hu => exact h.wait hu
  iterate 2 next hu => exact h.read hu
  next hu =>
    split
    · exact h.ends hu (t := s.initFailed _) (by simp) (by simp)
    · exact h.computes hu (t := { s with upc := .i12 })
  -- step 4: the priming reads (R175)
  iterate 5 next hu => exact h.read hu
  next hu => exact h.wait hu
  -- step 5: tuning, then the calibration block (R176 to R183)
  iterate 5 next hu => exact h.write hu
  next hu => exact h.read hu
  iterate 6 next hu => exact h.write hu
  next hu => exact h.read hu
  next hu =>
    split
    · exact h.computes hu (t := { s with upc := .i43 })
    · exact h.computes hu (t := { s with upc := .i32 })
  next hu => exact h.read hu (hranged := ranged_of (hcal := by simp [State.calibrated]; omega))
  next hu =>
    have hc1 : s.c1.toNat ≤ 255 := by simpa [State.calibrated] using h.calibratedAt hu
    exact h.read hu (hranged := ranged_of (hcal := by simp [State.calibrated, hc1]; omega))
  next hu =>
    obtain ⟨hc1, hc2⟩ : s.c1.toNat ≤ 255 ∧ s.c2.toNat ≤ 255 := by
      simpa [State.calibrated] using h.calibratedAt hu
    exact h.computes hu (hranged := ranged_of (hcal := by simp [State.calibrated, c1Adjust_range _ hc1, hc2]))
  next hu =>
    obtain ⟨⟨hc1, -⟩, hc2⟩ : (14 ≤ s.c1.toNat ∧ s.c1.toNat ≤ 266) ∧ s.c2.toNat ≤ 255 := by
      simpa [State.calibrated] using h.calibratedAt hu
    exact h.computes hu (hranged := ranged_of (hcal := by simp [State.calibrated, c1Clamp_range _ hc1, hc2]))
  next hu =>
    obtain ⟨⟨hlow, hhigh⟩, hc2⟩ : (14 ≤ s.c1.toNat ∧ s.c1.toNat ≤ 63) ∧ s.c2.toNat ≤ 255 := by
      simpa [State.calibrated] using h.calibratedAt hu
    exact h.computes hu (hranged := ranged_of (hcal := by simp [State.calibrated, hlow, hhigh, c2Scale_range _ hc2]))
  iterate 5 next hu => exact h.write hu (hranged := (h.rangedAt hu :))
  next hu => exact h.write hu
  -- step 6: the bulk load (R184)
  next hu =>
    split
    · exact h.ends hu (t := s.initFailed _) (by simp) (by simp)
    next hsel =>
      exact h.computes hu (t := { s with upc := .i44 })
        (hranged := ranged_of (hidx := bulkItems_isSome s.cfg (by simpa using hsel)))
  next hu =>
    obtain ⟨list, hlist⟩ := Option.isSome_iff_exists.mp (h.indexedAt hu)
    exact h.computes hu (hranged := ranged_of (hidx := by simp [State.indexed, hlist]))
  next hu => exact bulkTest_inv h hu
  next hu => exact bulkApply_inv h hu
  next hu => exact h.computes hu (hranged := ranged_of (hidx := (h.indexedAt hu :)))
  -- step 7: the final verification (R186, R187)
  iterate 2 next hu => exact h.read hu
  next hu =>
    split
    · exact h.ends hu (t := s.initFailed _) (by simp) (by simp)
    · exact h.computes hu (t := { s with upc := .i51 })
  next hu => exact h.ends hu (fun _ => rfl) (by simp)
  · exact ensures_fault _ _

theorem execFrameEnable_inv {s : State} (h : Running .frameEnable s) (hop : s.op = 0x05#8) :
    Ensures State.Inv (execFrameEnable s) := by
  unfold execFrameEnable
  split
  next hu => exact absurd hu h.upc_ne_idle
  · exact enablePhase_inv h (fun l hl => by simp [labelOf, hl]) (fun hne => absurd hop hne)
  · exact ensures_fault _ _

theorem execFrameStream_inv {s : State} (h : Running .frameStream s) : Ensures State.Inv (execFrameStream s) := by
  unfold execFrameStream
  split
  next hu => exact absurd hu h.upc_ne_idle
  · exact streamPhase_inv h (fun l hl => by simp [labelOf, hl]) rfl
  · exact completionPhase_inv h (fun l hl => by simp [labelOf, hl])
  · exact ensures_fault _ _

theorem execFrameRead_inv {s : State} (h : Running .frameRead s) : Ensures State.Inv (execFrameRead s) := by
  unfold execFrameRead
  split
  next hu => exact absurd hu h.upc_ne_idle
  · exact enablePhase_inv h (fun l hl => by simp [labelOf, hl]) (fun _ => rfl)
  · exact streamPhase_inv h (fun l hl => by simp [labelOf, hl]) rfl
  · exact completionPhase_inv h (fun l hl => by simp [labelOf, hl])
  · exact ensures_fault _ _

end Sys2Proof.Machine
end

section
/-! PROOFS. Every step keeps the invariant, and under it every bus event finds the lines as it needs them (10_state.md
R26, R27, R40, R42; 40_bus_transaction.md R131, R133; 70_reset_and_hazards.md R300). -/

namespace Sys2Proof.Machine

/-! ## What the decoder of commands answers -/

/-- A decoded command is no wire frame; an INIT carries the byte `val`, and a FRAME_ENABLE the opcode 0x05 (R107,
R110). -/
theorem decodeCommand_ok {w : Cmd} {i : Instr} (h : decodeCommand w = .ok i) :
    (∀ reg val, i ≠ .wframe reg val) ∧ (∀ reg, i ≠ .rframe reg) ∧ (∀ v, i = .init v → v = cmdVal w) ∧
    (i = .frameEnable → cmdOp w = 0x05#8) := by
  unfold decodeCommand at h
  split at h <;> cases h <;> simp [*]

theorem cmdOp_latched (s : State) : cmdOp s.latched = s.op := cmdOp_cmdWord _ _ _

theorem cmdVal_latched (s : State) : cmdVal s.latched = s.argVal := cmdVal_cmdWord _ _ _

/-! ## A running command -/

/-- A micro-step of the command that runs keeps the invariant. -/
theorem exec_inv {i : Instr} {s : State} (h : Running i s) : Ensures State.Inv (exec i s) := by
  obtain ⟨hw, hr, hval, hop⟩ := decodeCommand_ok h.decodes
  cases i with
  | regWrite reg val => exact execRegWrite_inv h
  | regRead reg => exact execRegRead_inv h
  | init v => exact execInit_inv h ((hval v rfl).trans (cmdVal_latched s))
  | readMotion => exact execReadMotion_inv h
  | frameEnable => exact execFrameEnable_inv h ((cmdOp_latched s).symm.trans (hop rfl))
  | frameStream => exact execFrameStream_inv h
  | frameRead => exact execFrameRead_inv h
  | setLed on => exact execSetLed_inv h
  | wframe reg val => exact absurd rfl (hw reg val)
  | rframe reg => exact absurd rfl (hr reg)

theorem runCommand_inv {s : State} (h : s.Inv) (hb : s.busy = true) (hl : ∀ f k, s.link ≠ .carrying f k) :
    Ensures State.Inv (runCommand s) := by
  unfold runCommand
  split
  next i hd => exact exec_inv ⟨h, hb, hd, hl⟩
  · exact ensures_fault _ _

/-! ## An idle engine -/

/-- The first micro-step of a command. -/
def entryLabel (i : Instr) : Label :=
  match i with
  | .regWrite _ _ => .w0
  | .regRead _ => .q0
  | .init _ => .i00
  | .readMotion => .m0
  | .frameEnable | .frameRead => .e0
  | .frameStream => .s0
  | .setLed _ => .l0
  | .wframe _ _ | .rframe _ => .idle

/-- From `IDLE` a command is dispatched to its first micro-step. -/
theorem exec_of_idle {i : Instr} (hw : ∀ reg val, i ≠ .wframe reg val) (hr : ∀ reg, i ≠ .rframe reg) {s : State}
    (hu : s.upc = .idle) : exec i s = .next (s.dispatchTo (entryLabel i)) := by
  cases i with
  | wframe reg val => exact absurd rfl (hw reg val)
  | rframe reg => exact absurd rfl (hr reg)
  | frameEnable => simp [exec, execFrameEnable, hu, entryLabel]
  | frameStream => simp [exec, execFrameStream, hu, entryLabel]
  | frameRead => simp [exec, execFrameRead, hu, entryLabel]
  | regWrite reg val => simp [exec, execRegWrite, hu, entryLabel]
  | regRead reg => simp [exec, execRegRead, hu, entryLabel]
  | init v => simp [exec, execInit, hu, entryLabel]
  | readMotion => simp [exec, execReadMotion, hu, entryLabel]
  | setLed on => simp [exec, execSetLed, hu, entryLabel]

/-- The first label of a command is its own, outside INIT's Running part and the pulse, and has no range. -/
theorem entryLabel_ok {i : Instr} (hw : ∀ reg val, i ≠ .wframe reg val) (hr : ∀ reg, i ≠ .rframe reg) (s : State) :
    labelOf i (entryLabel i) = true ∧ inInit (entryLabel i) = false ∧ restLevel (entryLabel i) = .deasserted ∧
    State.ranged { s with upc := entryLabel i } = true := by
  cases i with
  | wframe reg val => exact absurd rfl (hw reg val)
  | rframe reg => exact absurd rfl (hr reg)
  | _ => exact ⟨rfl, rfl, rfl, rfl⟩

/-- An idle engine between transactions: the lines at rest and no INIT under way. -/
theorem State.Inv.atRest {s : State} (h : s.Inv) (hb : s.busy = false) (hl : ∀ f k, s.link ≠ .carrying f k) :
    s.upc = .idle ∧ s.link = .idle ∧ s.csl = .deasserted ∧ s.session = false ∧ s.istate ≠ .running := by
  have hu := h.upc_idle hb
  have hlink : s.link = .idle := by
    have hlinked := h.linked
    cases hk : s.link with
    | idle => rfl
    | carrying f k => exact absurd hk (hl f k)
    | ended => simp [State.linked, hk, hb] at hlinked
  obtain ⟨hcsl, hses⟩ := lined_iff.mp h.lined
  obtain ⟨-, hrun, -⟩ := reported_iff.mp h.reported
  refine ⟨hu, hlink, ?_, ?_, fun heq => ?_⟩
  · rw [hcsl, State.levelDue, hlink, hu]; rfl
  · rw [hses, State.sessionDue, hlink]
  · rw [hu, heq] at hrun
    simp [inInit, isInitLabel] at hrun

/-- Accepting a word, legal or not, keeps the invariant. -/
theorem acceptWord_inv {w : Cmd} {s : State} (h : s.Inv) (hb : s.busy = false) (hl : ∀ f k, s.link ≠ .carrying f k) :
    Ensures State.Inv (acceptWord w s) := by
  obtain ⟨hu, hlink, hcsl, hses, hist⟩ := h.atRest hb hl
  unfold acceptWord
  split
  next i hd =>
    obtain ⟨hw, hr, -, -⟩ := decodeCommand_ok hd
    obtain ⟨hlabel, hin, hrest, hranged⟩ := entryLabel_ok hw hr ((s.latch w).dispatchTo (entryLabel i))
    obtain ⟨hok, -, -⟩ := reported_iff.mp h.reported
    rw [exec_of_idle hw hr (s := s.latch w) hu]
    exact inv_of_running (t := (s.latch w).dispatchTo (entryLabel i)) rfl ((latched_latch w s).symm ▸ hd) hlabel hlink
      (hcsl.trans hrest.symm) hses
      (reported_iff.mpr ⟨hok, by simpa [hin] using hist, by simp [hin]⟩) hranged h.stored
  · exact inv_of_idle (t := (s.latch w).raiseFailed .illegalCommand) rfl rfl hlink hcsl hses (by simp) hist h.stored

theorem pollPort_inv {s : State} (h : s.Inv) (hb : s.busy = false) (hl : ∀ f k, s.link ≠ .carrying f k) :
    Ensures State.Inv (pollPort s) := by
  unfold pollPort
  split
  · exact acceptWord_inv h hb hl
  · exact h

/-! ## Every step -/

/-- The invariant says nothing of `rst`. -/
theorem State.Inv.clock {s : State} (h : s.Inv) : s.clock.Inv where
  sequenced := h.sequenced
  linked := h.linked
  lined := h.lined
  reported := h.reported
  indexed := h.indexed
  counted := h.counted
  calibrated := h.calibrated
  stored := h.stored

/-- Reset leaves the frame buffer, and counts `PIXCNT` as not written. -/
theorem State.Inv.engineReset {s : State} (h : s.Inv) : s.engineReset.Inv :=
  inv_of_idle rfl rfl rfl rfl rfl (by simp) (by simp) (stored_iff.mpr ⟨(stored_iff.mp h.stored).1, by simp⟩)

/-- Settles O58, over what a step can do: reset, an event of a frame, a micro-step, a look at the port. -/
theorem everyStepKeepsTheInvariant : Obligations.EveryStepKeepsTheInvariant := by
  intro s t h ht
  have hstep : Ensures State.Inv (step s) := by
    obtain ⟨-, hs⟩ | ⟨-, f, k, hl, hs⟩ | ⟨-, hl, hb, hs⟩ | ⟨-, hl, hb, hs⟩ := step_cases s
    · exact hs ▸ h.clock.engineReset
    · exact hs ▸ runFrame_inv h.clock (f := f) (k := k) hl
    · exact hs ▸ runCommand_inv h.clock hb hl
    · exact hs ▸ pollPort_inv h.clock hb hl
  exact ensures_iff.mp hstep t ht

/-! ## The bus events -/

/-- The event of an operation tells where the operation may come. -/
theorem busOp_event (op : BusOp) (s : State) :
    (∀ tx rx, (s.busOp op).trace = .xfer tx rx :: s.trace → ∃ keep, op = .xfer tx keep) ∧
    ((s.busOp op).trace = .acq :: s.trace → op = .acq) ∧ ((s.busOp op).trace = .rel :: s.trace → op = .rel) := by
  cases op <;> simp [State.busOp, State.driveCs, csEvent]

/-- Reset records the line actions only. -/
theorem engineReset_trace_ne (s : State) (e : Event) (hcsd : e ≠ .csd) (hrel : e ≠ .rel) :
    s.engineReset.trace ≠ e :: s.trace := by
  cases hses : s.session <;> cases hcsl : s.csl <;> simp [State.resetEvents, hses, hcsl, hcsd.symm, hrel.symm]

/-- Outside its transactions a command emits no `ACQ`, no `REL` and no transfer. -/
theorem OwnBusStep.noBusEvent {s t : State} (h : OwnBusStep s t) :
    (∀ tx rx, t.trace ≠ .xfer tx rx :: s.trace) ∧ t.trace ≠ .acq :: s.trace ∧ t.trace ≠ .rel :: s.trace := by
  obtain ⟨-, -, -, hsame | ⟨e, he, rfl | rfl | ⟨us, rfl⟩ | ⟨j, v, rfl⟩⟩⟩ := h <;> simp [*]

theorem runCommand_ownBusStep (s : State) : Ensures (OwnBusStep s) (runCommand s) := by
  unfold runCommand
  split
  next i hd =>
    obtain ⟨hw, hr, -, -⟩ := decodeCommand_ok hd
    exact exec_ownBusStep hw hr s
  · exact ensures_fault _ _

theorem pollPort_ownBusStep (s : State) : Ensures (OwnBusStep s) (pollPort s) := by
  unfold pollPort acceptWord
  split
  · split
    next w _ _ i hd =>
      obtain ⟨hw, hr, -, -⟩ := decodeCommand_ok hd
      exact exec_ownBusStep hw hr _
    · exact ⟨rfl, rfl, rfl, .inl rfl⟩
  · exact ⟨rfl, rfl, rfl, .inl rfl⟩

/-- Settles O60: reset forces the lines only, a frame's operations come where they may, and the rest of a step reaches
no line but chip-select. -/
theorem busEventsComeInAnOpenSession : Obligations.BusEventsComeInAnOpenSession := by
  intro s t h ht
  obtain ⟨hr, hs⟩ | ⟨-, f, k, hl, hs⟩ | ⟨-, -, -, hs⟩ | ⟨-, -, -, hs⟩ := step_cases s
  · have hreset := engineReset_trace_ne s.clock
    obtain rfl : s.clock.engineReset = t := by simpa using hs.symm.trans ht
    exact ⟨fun tx rx he => absurd he (hreset _ (by simp) (by simp)),
      fun he => absurd he (hreset _ (by simp) (by simp)), fun hr' => absurd hr (by simp [hr'])⟩
  · obtain ⟨g, ops, op, htx, -, hop, rfl⟩ := runFrame_next (s := s.clock) hl (hs ▸ ht)
    have hmay : op.mayCome s.csl s.session = true := h.mayCome hl htx hop
    obtain ⟨hx, ha, hrel⟩ := busOp_event op s.clock
    refine ⟨fun tx rx he => ?_, fun he => ?_, fun _ he => ?_⟩
    · obtain ⟨keep, rfl⟩ := hx tx rx he
      simpa [BusOp.mayCome] using hmay
    · obtain rfl := ha he
      simpa [BusOp.mayCome] using hmay
    · obtain rfl := hrel he
      exact hmay
  · obtain ⟨hx, ha, hrel⟩ := (ensures_iff.mp (runCommand_ownBusStep s.clock) t (hs ▸ ht)).noBusEvent
    exact ⟨fun tx rx he => absurd he (hx tx rx), fun he => absurd he ha, fun _ he => absurd he hrel⟩
  · obtain ⟨hx, ha, hrel⟩ := (ensures_iff.mp (pollPort_ownBusStep s.clock) t (hs ▸ ht)).noBusEvent
    exact ⟨fun tx rx he => absurd he (hx tx rx), fun he => absurd he ha, fun _ he => absurd he hrel⟩

end Sys2Proof.Machine
end

section
/-! PROOFS. The frame buffer is never read (20_memory.md R66, R74): an operation run with the buffer emptied first and
one run with it as it stands answer the same, once their next states are compared with the buffer left out. -/

namespace Sys2Proof.Machine

/-- `s` with nothing written in the frame buffer. -/
def State.emptyFb (s : State) : State := { s with fb := [] }

/-! The registers are not tagged for `simp`: rewritten inside a branch condition, they would keep `emptyFb_ite` from the
branch. -/

theorem State.emptyFb_n (s : State) : s.emptyFb.n = s.n := rfl
theorem State.emptyFb_a (s : State) : s.emptyFb.a = s.a := rfl
theorem State.emptyFb_idx (s : State) : s.emptyFb.idx = s.idx := rfl
theorem State.emptyFb_polls (s : State) : s.emptyFb.polls = s.polls := rfl
theorem State.emptyFb_cfg (s : State) : s.emptyFb.cfg = s.cfg := rfl
theorem State.emptyFb_var (s : State) : s.emptyFb.var = s.var := rfl
theorem State.emptyFb_upc (s : State) : s.emptyFb.upc = s.upc := rfl
theorem State.emptyFb_busy (s : State) : s.emptyFb.busy = s.busy := rfl
theorem State.emptyFb_link (s : State) : s.emptyFb.link = s.link := rfl
theorem State.emptyFb_cmdIn (s : State) : s.emptyFb.cmdIn = s.cmdIn := rfl
theorem State.emptyFb_latched (s : State) : s.emptyFb.latched = s.latched := rfl
theorem State.emptyFb_bulkItem (s : State) : s.emptyFb.bulkItem = s.bulkItem := rfl
theorem State.emptyFb_position (s : State) : s.emptyFb.position = s.position := rfl
@[simp] theorem State.emptyFb_emptyFb (s : State) : s.emptyFb.emptyFb = s.emptyFb := rfl

@[simp] theorem State.emptyFb_ite {c : Prop} [Decidable c] (s t : State) :
    State.emptyFb (if c then s else t) = if c then s.emptyFb else t.emptyFb := by
  split <;> rfl

/-- States that agree but for the frame buffer differ in its contents only. -/
theorem State.eq_with_fb {s t : State} (h : s.emptyFb = t.emptyFb) : s = { t with fb := s.fb } :=
  congrArg (fun u : State => { u with fb := s.fb }) h

/-- The outcome with the frame buffer of its next state, where there is one, left out. -/
def emptyFbOut : Out → Out
  | .next t => .next t.emptyFb
  | .fault r => .fault r
  | .refused r => .refused r

@[simp] theorem emptyFbOut_next (t : State) : emptyFbOut (.next t) = .next t.emptyFb := rfl
@[simp] theorem emptyFbOut_fault (r : Fault) : emptyFbOut (.fault r) = .fault r := rfl
@[simp] theorem emptyFbOut_refused (r : Refusal) : emptyFbOut (.refused r) = .refused r := rfl

/-- An outcome that agrees with a next state but for the frame buffer is that state with some contents. -/
theorem next_of_emptyFbOut_eq {o : Out} {t : State} (h : emptyFbOut o = emptyFbOut (.next t)) :
    ∃ m, o = .next { t with fb := m } := by
  cases o with
  | next u =>
    have hu : u.emptyFb = t.emptyFb := by simpa using h
    exact ⟨u.fb, congrArg Host.Outcome.next (State.eq_with_fb hu)⟩
  | fault r => simp at h
  | refused r => simp at h

/-! ## The shared operations -/

@[simp] theorem wr_emptyFb (reg val : Byte) (l : Label) (s : State) :
    emptyFbOut (wr reg val l s.emptyFb) = emptyFbOut (wr reg val l s) := by
  unfold wr
  simp only [State.emptyFb_link]
  split <;> rfl

/-- `RD` does not read the buffer unless its store does. -/
@[simp] theorem rd_emptyFb (reg : Byte) (store : Byte → State → State) (l : Label) (s : State) :
    emptyFbOut (rd reg store l s.emptyFb) = emptyFbOut (rd reg store l s) ↔
      (s.link = .ended → State.emptyFb { store s.rx s.emptyFb with link := .idle, upc := l } =
        State.emptyFb { store s.rx s with link := .idle, upc := l }) := by
  unfold rd
  simp only [State.emptyFb_link]
  split
  case h_1 h => simp only [h, reduceCtorEq, false_implies, iff_true]; rfl
  case h_2 h => simp [h]; rfl
  case h_3 h => simp [h]

@[simp] theorem wait_emptyFb (us : Nat) (l : Label) (s : State) :
    emptyFbOut (wait us l s.emptyFb) = emptyFbOut (wait us l s) := rfl

@[simp] theorem pulse_emptyFb (v : Level) (l : Label) (s : State) :
    emptyFbOut (pulse v l s.emptyFb) = emptyFbOut (pulse v l s) := rfl

/-- The one write of the buffer: element, pixel and event come from `N`, `A` and `B`, so that only the buffer itself
depends on what it held. -/
@[simp] theorem storePixel_emptyFb (v : Byte) (l : Label) (s : State) :
    emptyFbOut (storePixel v l s.emptyFb) = emptyFbOut (storePixel v l s) := by
  unfold storePixel
  rw [State.emptyFb_n]
  split <;> rfl

@[simp] theorem carryFrame_emptyFb (f : Frame) (ops : List BusOp) (s : State) :
    emptyFbOut (carryFrame f ops s.emptyFb) = emptyFbOut (carryFrame f ops s) := by
  unfold carryFrame
  simp only [State.emptyFb_position, State.emptyFb_busy]
  split
  case h_1 op _ => cases op <;> rfl
  case h_2 => rfl

@[simp] theorem pollAgain_emptyFb (l : Label) (s : State) : s.emptyFb.pollAgain l = (s.pollAgain l).emptyFb := by
  unfold State.pollAgain
  simp only [State.emptyFb_cfg, State.emptyFb_polls, State.emptyFb_ite]
  rfl

@[simp] theorem classify_emptyFb (s : State) : classify s.emptyFb = (classify s).emptyFb := by
  unfold classify
  simp only [State.emptyFb_a, pollAgain_emptyFb]
  split <;> rfl

@[simp] theorem gateArm_emptyFb (l : Label) (s : State) :
    emptyFbOut (gateArm l s.emptyFb) = emptyFbOut (gateArm l s) := wr_emptyFb _ _ l { s with polls := 0 }

@[simp] theorem gateTest_emptyFb (poll exit : Label) (s : State) :
    emptyFbOut (gateTest poll exit s.emptyFb) = emptyFbOut (gateTest poll exit s) := by
  simp only [gateTest, pollAgain_emptyFb, emptyFbOut_next, State.emptyFb_ite, State.emptyFb_emptyFb]
  rfl

@[simp] theorem enableWrite_emptyFb (s : State) : emptyFbOut (enableWrite s.emptyFb) = emptyFbOut (enableWrite s) := by
  unfold enableWrite
  simp only [State.emptyFb_cfg, State.emptyFb_idx]
  split
  · exact wr_emptyFb _ _ _ s
  · rfl

@[simp] theorem bulkTest_emptyFb (s : State) : emptyFbOut (bulkTest s.emptyFb) = emptyFbOut (bulkTest s) := by
  unfold bulkTest
  simp only [State.emptyFb_cfg, State.emptyFb_var]
  split <;> rfl

@[simp] theorem bulkApply_emptyFb (s : State) : emptyFbOut (bulkApply s.emptyFb) = emptyFbOut (bulkApply s) := by
  unfold bulkApply
  simp only [State.emptyFb_bulkItem]
  split
  · exact wr_emptyFb _ _ _ s
  · rfl
  · rfl

/-! ## The commands, label by label

What is left of each label is an equation of two next states that differ in the buffer at most. -/

theorem execInit_emptyFb (v : Byte) (s : State) :
    emptyFbOut (execInit v s.emptyFb) = emptyFbOut (execInit v s) := by
  unfold execInit
  simp only [State.emptyFb_upc]
  split <;> simp <;> intros <;> rfl

theorem enablePhase_emptyFb (s : State) : emptyFbOut (enablePhase s.emptyFb) = emptyFbOut (enablePhase s) := by
  unfold enablePhase
  simp only [State.emptyFb_upc]
  split <;> simp <;> intros <;> rfl

theorem streamPhase_emptyFb (s : State) : emptyFbOut (streamPhase s.emptyFb) = emptyFbOut (streamPhase s) := by
  unfold streamPhase
  simp only [State.emptyFb_upc]
  split <;> simp <;> intros <;> rfl

theorem completionPhase_emptyFb (s : State) :
    emptyFbOut (completionPhase s.emptyFb) = emptyFbOut (completionPhase s) := by
  unfold completionPhase
  simp only [State.emptyFb_upc]
  split <;> simp <;> intros <;> rfl

/-- What an instruction does to everything but the buffer does not depend on the buffer. -/
theorem exec_emptyFb (i : Instr) (s : State) : emptyFbOut (exec i s.emptyFb) = emptyFbOut (exec i s) := by
  cases i with
  | init v => exact execInit_emptyFb v s
  | wframe reg val => exact carryFrame_emptyFb _ _ s
  | rframe reg => exact carryFrame_emptyFb _ _ s
  | regWrite reg val =>
    simp only [exec, execRegWrite, State.emptyFb_upc]
    split <;> simp <;> rfl
  | regRead reg =>
    simp only [exec, execRegRead, State.emptyFb_upc]
    split <;> simp <;> intros <;> rfl
  | readMotion =>
    simp only [exec, execReadMotion, State.emptyFb_upc]
    split <;> simp <;> intros <;> rfl
  | frameEnable =>
    simp only [exec, execFrameEnable, State.emptyFb_upc]
    split
    · rfl
    · exact enablePhase_emptyFb s
    · rfl
  | frameStream =>
    simp only [exec, execFrameStream, State.emptyFb_upc]
    split
    · rfl
    · exact streamPhase_emptyFb s
    · exact completionPhase_emptyFb s
    · rfl
  | frameRead =>
    simp only [exec, execFrameRead, State.emptyFb_upc]
    split
    · rfl
    · exact enablePhase_emptyFb s
    · exact streamPhase_emptyFb s
    · exact completionPhase_emptyFb s
    · rfl
  | setLed on =>
    simp only [exec, execSetLed, State.emptyFb_upc]
    split <;> simp <;> rfl

/-! ## The sequencer -/

theorem runFrame_emptyFb (f : Frame) (s : State) : emptyFbOut (runFrame f s.emptyFb) = emptyFbOut (runFrame f s) := by
  unfold runFrame
  split
  · exact exec_emptyFb _ s
  · rfl

theorem runCommand_emptyFb (s : State) : emptyFbOut (runCommand s.emptyFb) = emptyFbOut (runCommand s) := by
  unfold runCommand
  simp only [State.emptyFb_latched]
  split
  · exact exec_emptyFb _ s
  · rfl

theorem acceptWord_emptyFb (w : Cmd) (s : State) :
    emptyFbOut (acceptWord w s.emptyFb) = emptyFbOut (acceptWord w s) := by
  unfold acceptWord
  split
  · exact exec_emptyFb _ (s.latch w)
  · rfl

theorem pollPort_emptyFb (s : State) : emptyFbOut (pollPort s.emptyFb) = emptyFbOut (pollPort s) := by
  unfold pollPort
  simp only [State.emptyFb_cmdIn]
  split
  · exact acceptWord_emptyFb _ s
  · rfl

/-- A step, over what it can do: reset, an event of a frame, a micro-step, a look at the port. -/
theorem step_emptyFb (s : State) : emptyFbOut (step s.emptyFb) = emptyFbOut (step s) := by
  obtain ⟨hr, hs⟩ | ⟨hr, f, k, hl, hs⟩ | ⟨hr, hl, hb, hs⟩ | ⟨hr, hl, hb, hs⟩ := step_cases s
  · rw [hs, step_of_rst (s := s.emptyFb) hr]
    rfl
  · rw [hs, step_of_carrying (s := s.emptyFb) hr hl]
    exact runFrame_emptyFb f s.clock
  · rw [hs, step_of_busy (s := s.emptyFb) hr hl hb]
    exact runCommand_emptyFb s.clock
  · rw [hs, step_of_idle (s := s.emptyFb) hr hl hb]
    exact pollPort_emptyFb s.clock

/-- Settles O56: with the buffer emptied the two states are one, and a step from there answers as from either, but for
the buffer. -/
theorem frameBufferIsNeverRead : Obligations.FrameBufferIsNeverRead := by
  intro s t m h
  refine next_of_emptyFbOut_eq ?_
  calc emptyFbOut (step { s with fb := m })
      = emptyFbOut (step s.emptyFb) := (step_emptyFb { s with fb := m }).symm
    _ = emptyFbOut (step s) := step_emptyFb s
    _ = emptyFbOut (.next t) := by rw [h]

end Sys2Proof.Machine
end

section
/-! PROOFS. Encodings: the encoder against the decoder, the ignored bits of a command word, the address byte of a wire
frame (30_encoding.md R100 to R110, R115). -/

namespace Sys2Proof

/-! ## Register operands -/

/-- Stripping is zero extension of the 7-bit address, so it depends on bits 6:0 alone (R103). -/
theorem stripHighBit_eq_setWidth (reg : Byte) : stripHighBit reg = (reg.setWidth 7).setWidth 8 := by
  revert reg; decide

theorem stripHighBit_of_addressOk {reg : Byte} (h : addressOk reg = true) : stripHighBit reg = reg := by
  revert reg; decide

@[simp] theorem addressOk_stripHighBit (reg : Byte) : addressOk (stripHighBit reg) = true := by
  revert reg; decide

/-! ## The rows of the decoder (Table 30-2) -/

@[simp] theorem decodeCommand_regWrite (reg val : Byte) :
    decodeCommand (cmdWord 0x01#8 reg val) = .ok (.regWrite (stripHighBit reg) val) := by
  simp [decodeCommand]

@[simp] theorem decodeCommand_regRead (reg val : Byte) :
    decodeCommand (cmdWord 0x02#8 reg val) = .ok (.regRead (stripHighBit reg)) := by
  simp [decodeCommand]

@[simp] theorem decodeCommand_init (reg val : Byte) : decodeCommand (cmdWord 0x03#8 reg val) = .ok (.init val) := by
  simp [decodeCommand]

@[simp] theorem decodeCommand_readMotion (reg val : Byte) :
    decodeCommand (cmdWord 0x04#8 reg val) = .ok .readMotion := by
  simp [decodeCommand]

@[simp] theorem decodeCommand_frameEnable (reg val : Byte) :
    decodeCommand (cmdWord 0x05#8 reg val) = .ok .frameEnable := by
  simp [decodeCommand]

@[simp] theorem decodeCommand_frameStream (reg val : Byte) :
    decodeCommand (cmdWord 0x06#8 reg val) = .ok .frameStream := by
  simp [decodeCommand]

@[simp] theorem decodeCommand_frameRead (reg val : Byte) :
    decodeCommand (cmdWord 0x07#8 reg val) = .ok .frameRead := by
  simp [decodeCommand]

@[simp] theorem decodeCommand_setLed (reg val : Byte) :
    decodeCommand (cmdWord 0x08#8 reg val) = .ok (.setLed (val.getLsbD 0)) := by
  simp [decodeCommand]

/-! ## Decoding what the encoder forms -/

@[simp] theorem ledBit_getLsbD_zero (on : Bool) : (ledBit on).getLsbD 0 = on := by cases on <;> rfl

/-- A 7-bit address is the low part of its own byte, so the lemmas about the engine's frames speak of every frame. -/
theorem setWidth_regByte (reg : RegAddr) : (Machine.regByte reg).setWidth 7 = reg := by simp [Machine.regByte]

@[simp] theorem decodeFrame_wframeBits (reg : RegAddr) (val : Byte) :
    decodeFrame (wframeBits reg val) = .ok (.wframe reg val) := by
  rw [← setWidth_regByte reg, Machine.wframeBits_setWidth, decodeFrame_writeFrame]

@[simp] theorem decodeFrame_rframeBits (reg : RegAddr) : decodeFrame (rframeBits reg) = .ok (.rframe reg) := by
  rw [← setWidth_regByte reg, Machine.rframeBits_setWidth, decodeFrame_readFrame]

/-- Settles O1, by the row of each constructor; only a register operand needs the hypothesis, that bit 7 is clear. -/
theorem decodeOfEncodeIsTheInstruction : Obligations.DecodeOfEncodeIsTheInstruction := by
  intro i hwf
  cases i with
  | regWrite reg val =>
    have hreg : stripHighBit reg = reg := stripHighBit_of_addressOk hwf
    simp only [encode, decode, decodeCommand_regWrite, hreg]
  | regRead reg =>
    have hreg : stripHighBit reg = reg := stripHighBit_of_addressOk hwf
    simp only [encode, decode, decodeCommand_regRead, hreg]
  | init variant => exact decodeCommand_init 0x00#8 variant
  | readMotion => exact decodeCommand_readMotion 0x00#8 0x00#8
  | frameEnable => exact decodeCommand_frameEnable 0x00#8 0x00#8
  | frameStream => exact decodeCommand_frameStream 0x00#8 0x00#8
  | frameRead => exact decodeCommand_frameRead 0x00#8 0x00#8
  | setLed on => simp only [encode, decode, decodeCommand_setLed, ledBit_getLsbD_zero]
  | wframe reg val => exact decodeFrame_wframeBits reg val
  | rframe reg => exact decodeFrame_rframeBits reg

/-! ## Encoding what the decoder answers -/

/-- The decoder of commands answers instructions in their canonical spelling: it strips bit 7 of a register operand. -/
theorem wellFormed_of_decodeCommand {w : Cmd} {i : Instr} (h : decodeCommand w = .ok i) : i.wellFormed = true := by
  unfold decodeCommand at h
  split at h <;> cases h <;> simp [Instr.wellFormed]

/-- The canonical word of a decoded command is a command word with the opcode of the word decoded (R107). -/
theorem encode_of_decodeCommand {w : Cmd} {i : Instr} (h : decodeCommand w = .ok i) :
    ∃ w', encode i = .command w' ∧ cmdOp w' = cmdOp w := by
  unfold decodeCommand at h
  split at h <;> cases h <;> exact ⟨_, rfl, by simp [*]⟩

/-- Settles O2: that the canonical word decodes to the instruction again is O1, as the instruction is well formed. -/
theorem decodedWordsAreWellFormed : Obligations.DecodedWordsAreWellFormed := by
  intro w i h
  have hwf : i.wellFormed = true := wellFormed_of_decodeCommand h
  obtain ⟨w', hw', hop⟩ := encode_of_decodeCommand h
  have hdec : decode (encode i) = .ok i := decodeOfEncodeIsTheInstruction i hwf
  rw [hw'] at hdec
  exact ⟨hwf, w', hw', hop, hdec⟩

/-- Settles O3, row by row: of an operand with ignored bits the decoder reads bits 6:0 (`reg`) or bit 0 (`val`). -/
theorem ignoredBitsHaveNoEffect : Obligations.IgnoredBitsHaveNoEffect := by
  intro op reg val reg' val'
  refine ⟨?_, ?_, ?_, ?_, ?_⟩
  · rintro rfl hreg
    simp only [decodeCommand_regWrite, stripHighBit_eq_setWidth, hreg]
  · rintro rfl hreg
    simp only [decodeCommand_regRead, stripHighBit_eq_setWidth, hreg]
  · rintro rfl
    simp only [decodeCommand_init]
  · rintro (rfl | rfl | rfl | rfl) <;> simp
  · rintro rfl hval
    simp only [decodeCommand_setLed, hval]

/-- Settles O4: each word is closed, and the decoder evaluates it to its instruction. -/
theorem wordsOfTheSpecDecode : Obligations.WordsOfTheSpecDecode :=
  ⟨rfl, rfl, rfl, rfl, rfl, rfl, rfl, rfl⟩

end Sys2Proof

namespace Sys2Proof.Machine

/-! ## The address byte (R103) -/

/-- A write sets bit 7 of the address byte, whatever it was in the operand. -/
theorem writeAddr_and_mask (r : Byte) : writeAddr (r &&& 0x7F#8) = writeAddr r := by
  revert r; decide

/-- A read clears bit 7 of the address byte, whatever it was in the operand. -/
theorem readAddr_and_mask (r : Byte) : readAddr (r &&& 0x7F#8) = readAddr r := by
  rw [readAddr, BitVec.and_assoc, BitVec.and_self, readAddr]

/-- Settles O5: both frames are an address byte joined with a second byte. -/
theorem addressByteIsAssembledFromTheOperand : Obligations.AddressByteIsAssembledFromTheOperand := by
  intro r v
  have hwrite : writeFrame r v = writeFrame (r &&& 0x7F#8) v := by
    rw [writeFrame, writeFrame, writeAddr_and_mask]
  have hread : readFrame r = readFrame (r &&& 0x7F#8) := by
    rw [readFrame, readFrame, readAddr_and_mask]
  exact ⟨frameFirst_joinBytes _ _, frameSecond_joinBytes _ _, frameFirst_joinBytes _ _, frameSecond_joinBytes _ _,
    hwrite, hread, decodeFrame_writeFrame r v, decodeFrame_readFrame r⟩

end Sys2Proof.Machine
end

section
/-! PROOFS. Acceptance of an offered word, legal or illegal (10_state.md R40; 30_encoding.md R107, R109;
60_exceptions.md R273). -/

namespace Sys2Proof.Machine

/-- An idle engine that is offered a word accepts it in the coming step. -/
theorem step_of_offers {s : State} {w : Cmd} (h : s.Offers w) : step s = acceptWord w s := by
  obtain ⟨q, hq⟩ : ∃ q, s.cmdIn = w :: q := List.head?_eq_some_iff.mp h.offered
  rw [step_of_idle (rstNow_of_quiet h.rstQuiet) (by simp [h.linkIdle]) h.notBusy, clock_of_quiet h.rstQuiet,
    pollPort_of_offer hq]

/-- A decoded command starts at the first micro-step its opcode selects. -/
theorem firstLabel_of_decodeCommand {w : Cmd} {i : Instr} (h : decodeCommand w = .ok i) :
    firstLabel (cmdOp w) = some (entryLabel i) := by
  unfold decodeCommand at h
  split at h <;> cases h <;> simp [firstLabel, entryLabel, *]

/-- An opcode the decoder refuses has no first micro-step. -/
theorem firstLabel_of_decodeCommand_error {w : Cmd} {e : DecodeError} (h : decodeCommand w = .error e) :
    firstLabel (cmdOp w) = none := by
  unfold decodeCommand at h
  split at h <;> cases h
  simp [firstLabel, *]

/-- Settles O7, over the decoder's answer: a command is dispatched from `IDLE`, an illegal word raises at once. -/
theorem acceptedWordIsDispatchedOnItsOpcode : Obligations.AcceptedWordIsDispatchedOnItsOpcode := by
  intro s w h
  rw [step_of_offers h]
  cases hd : decodeCommand w with
  | ok i =>
    obtain ⟨hw, hr, -, -⟩ := decodeCommand_ok hd
    have hidle : (s.latch w).upc = .idle := h.atIdle
    rw [acceptWord_of_decode s hd, exec_of_idle hw hr hidle, firstLabel_of_decodeCommand hd]
    rfl
  | error e =>
    rw [firstLabel_of_decodeCommand_error hd]
    simp only [acceptWord, hd]
    rfl

/-- The illegal opcodes by value (R109). -/
theorem firstLabel_of_illegal {op : Byte} (h : op = 0x00#8 ∨ 9 ≤ op.toNat) : firstLabel op = none := by
  revert op; decide

/-- Settles O8: the next state is O7's at an opcode without a first micro-step. -/
theorem illegalCommandEndsAtOnce : Obligations.IllegalCommandEndsAtOnce := by
  intro s w h hop
  have hstep := acceptedWordIsDispatchedOnItsOpcode s w h
  rw [firstLabel_of_illegal hop] at hstep
  exact ⟨_, hstep, rfl, rfl, rfl, rfl, rfl, rfl, rfl, rfl, rfl, rfl, rfl⟩

end Sys2Proof.Machine
end

section
/-! PROOFS. Values put together from bytes: the motion deltas (43_motion.md R221; 30_encoding.md R113), the pixel and
the tag (R111, R112). Each is a concatenation of bit fields. -/

namespace Sys2Proof.Machine

/-! ## Motion deltas -/

theorem joinBytes_eq_append (hi lo : Byte) : joinBytes hi lo = hi ++ lo := by
  apply BitVec.eq_of_getLsbD_eq
  intro i h
  rw [getLsbD_joinBytes hi lo i h, BitVec.getLsbD_append]

theorem signed16_eq_toInt (w : BitVec 16) : signed16 w = w.toInt := by
  rw [signed16, BitVec.toInt_eq_toNat_cond]
  split <;> split <;> omega

/-- Settles O31: the signed reading of a concatenation takes the sign from its high part. -/
theorem deltasAreTwosComplement : Obligations.DeltasAreTwosComplement := by
  intro hi lo
  have hval : signed16 (joinBytes hi lo) = hi.toInt * 256 + (lo.toNat : Int) := by
    rw [signed16_eq_toInt, joinBytes_eq_append, BitVec.toInt_append]
    simp [Int.mul_comm]
  have hlow : -32768 ≤ (joinBytes hi lo).toInt := BitVec.le_toInt _
  have hhigh : (joinBytes hi lo).toInt < 32768 := BitVec.toInt_lt
  rw [← signed16_eq_toInt] at hlow hhigh
  exact ⟨hval, hlow, by omega⟩

/-! ## Pixels and tags -/

/-- The pixel is six bits of the first byte above two bits of the second. -/
theorem pixel_eq_append (a b : Byte) : pixel a b = a.extractLsb' 0 6 ++ b.extractLsb' 0 2 := by
  apply BitVec.eq_of_getLsbD_eq
  intro i h
  rw [BitVec.getLsbD_append]
  interval_cases i <;> simp [pixel]

theorem tagOf_toNat (v : Byte) : (tagOf v).toNat = v.toNat / 64 := by
  revert v; decide

/-- Settles O35, each clause from the pixel's two bit fields. -/
theorem pixelBits : Obligations.PixelBits := by
  intro a b
  refine ⟨rfl, ?_, ?_, ?_, tagOf_toNat a⟩
  · rw [pixel_eq_append, BitVec.extractLsb'_append_eq_left]
  · rw [pixel_eq_append, BitVec.extractLsb'_append_eq_right]
  · rw [pixel_eq_append, BitVec.toNat_append, ← Nat.shiftLeft_add_eq_or_of_lt (BitVec.isLt _), Nat.shiftLeft_eq]
    simp

end Sys2Proof.Machine
end

section
/-! PROOFS. Under the invariant no step stops (40_bus_transaction.md R140; 60_exceptions.md R280, R287): each fault and
each refusal has a cause that the invariant denies. -/

namespace Sys2Proof.Machine

/-- The outcome is a next state. -/
def Answers (o : Out) : Prop := ∃ t, o = .next t

@[simp] theorem answers_next (t : State) : Answers (.next t) := ⟨t, rfl⟩
@[simp] theorem answers_wait (us : Nat) (l : Label) (s : State) : Answers (wait us l s) := ⟨_, rfl⟩
@[simp] theorem answers_pulse (v : Level) (l : Label) (s : State) : Answers (pulse v l s) := ⟨_, rfl⟩
@[simp] theorem answers_gateTest (poll exit : Label) (s : State) : Answers (gateTest poll exit s) := ⟨_, rfl⟩

/-- `WR` does not stop outside another transaction. -/
theorem answers_wr {s : State} (hl : ∀ f k, s.link ≠ .carrying f k) (reg val : Byte) (l : Label) :
    Answers (wr reg val l s) := by
  unfold wr
  split
  · exact answers_next _
  · exact answers_next _
  next f k hk => exact absurd hk (hl f k)

/-- `RD` does not stop outside another transaction. -/
theorem answers_rd {s : State} (hl : ∀ f k, s.link ≠ .carrying f k) (reg : Byte) (store : Byte → State → State)
    (l : Label) : Answers (rd reg store l s) := by
  unfold rd
  split
  · exact answers_next _
  · exact answers_next _
  next f k hk => exact absurd hk (hl f k)

/-- The second write of the ready gate is a `WR`. -/
theorem answers_gateArm {s : State} (hl : ∀ f k, s.link ≠ .carrying f k) (l : Label) : Answers (gateArm l s) :=
  answers_wr (s := { s with polls := 0 }) hl _ _ l

/-- A pixel inside the buffer is stored. -/
theorem answers_storePixel {s : State} (hn : s.n.toNat < Config.framePixels) (v : Byte) (l : Label) :
    Answers (storePixel v l s) := by
  rw [storePixel, if_pos hn]
  exact answers_next _

/-- A frame is carried at each event of its transaction. -/
theorem answers_carryFrame {ops : List BusOp} {s : State} (hk : s.position < ops.length) (f : Frame) :
    Answers (carryFrame f ops s) := by
  simp [carryFrame, List.getElem?_eq_getElem hk]

/-! ## The commands, label by label

`UPC` stands at a label of the command that runs (`Running.label`), so the last arm of its meaning is not reached; a `WR`
or an `RD` finds no frame on the link (`Running.free`). What is left are the operations that look something up: the items
of the two lists and the element of the frame buffer, each in its range by the invariant. -/

theorem bulkTest_answers {v : Byte} {s : State} (h : Running (.init v) s) (hu : s.upc = .i45) :
    Answers (bulkTest s) := by
  have hidx := h.indexedAt hu
  unfold bulkTest
  split
  · exact answers_next _
  next hnone => simp [State.indexed, hnone] at hidx

theorem bulkApply_answers {v : Byte} {s : State} (h : Running (.init v) s) (hu : s.upc = .i46) :
    Answers (bulkApply s) := by
  obtain ⟨list, hlist, hidx⟩ : ∃ list, bulkItems s.cfg s.var = some list ∧ s.idx < list.length := by
    simpa [State.indexed, Option.any_eq_true] using h.indexedAt hu
  unfold bulkApply
  split
  · exact answers_wr h.free _ _ _
  · exact answers_wait _ _ _
  next hnone => simp [State.bulkItem, hlist, hidx] at hnone

theorem enableWrite_answers {i : Instr} {s : State} (h : Running i s) (hu : s.upc = .e2) :
    Answers (enableWrite s) := by
  have hidx : s.idx < 9 := by simpa [State.indexed] using h.indexedAt hu
  simp only [enableWrite, Vector.getElem?_eq_getElem hidx]
  exact answers_wr h.free _ _ _

theorem storePixel_answers {i : Instr} {s : State} (h : Running i s) (hu : s.upc = .s5) (v : Byte) (l : Label) :
    Answers (storePixel v l s) := by
  obtain ⟨hiter, hn⟩ : s.iter.toNat < 1225 ∧ s.n.toNat ≤ s.iter.toNat := by
    simpa [State.counted] using h.countedAt hu
  exact answers_storePixel (show s.n.toNat < 1225 by omega) v l

theorem execRegWrite_answers {reg val : Byte} {s : State} (h : Running (.regWrite reg val) s) :
    Answers (execRegWrite reg val s) := by
  have hlabel := h.label
  unfold execRegWrite
  split
  case h_4 => simp_all [labelOf]
  all_goals simp [answers_wr h.free]

theorem execRegRead_answers {reg : Byte} {s : State} (h : Running (.regRead reg) s) :
    Answers (execRegRead reg s) := by
  have hlabel := h.label
  unfold execRegRead
  split
  case h_4 => simp_all [labelOf]
  all_goals simp [answers_rd h.free]

theorem execReadMotion_answers {s : State} (h : Running .readMotion s) : Answers (execReadMotion s) := by
  have hlabel := h.label
  unfold execReadMotion
  split
  case h_8 => simp_all [labelOf]
  all_goals simp [answers_rd h.free]

theorem execSetLed_answers {on : Bool} {s : State} (h : Running (.setLed on) s) : Answers (execSetLed on s) := by
  have hlabel := h.label
  unfold execSetLed
  split
  case h_7 => simp_all [labelOf]
  all_goals simp [answers_wr h.free]

theorem execInit_answers {v : Byte} {s : State} (h : Running (.init v) s) : Answers (execInit v s) := by
  have hlabel := h.label
  unfold execInit
  split
  case h_54 => simp [labelOf, isInitLabel, *] at hlabel
  case h_47 hu => exact bulkTest_answers h hu
  case h_48 hu => exact bulkApply_answers h hu
  all_goals simp [answers_wr h.free, answers_rd h.free]

theorem enablePhase_answers {i : Instr} {s : State} (h : Running i s) (hphase : framePhase s.upc = .enable) :
    Answers (enablePhase s) := by
  unfold enablePhase
  split
  case h_11 =>
    unfold framePhase at hphase
    split at hphase <;> simp_all
  case h_3 hu => exact enableWrite_answers h hu
  all_goals simp [answers_wr h.free, answers_gateArm h.free, answers_rd h.free]

theorem streamPhase_answers {i : Instr} {s : State} (h : Running i s) (hphase : framePhase s.upc = .stream) :
    Answers (streamPhase s) := by
  unfold streamPhase
  split
  case h_10 =>
    unfold framePhase at hphase
    split at hphase <;> simp_all
  case h_6 hu => exact storePixel_answers h hu _ _
  all_goals simp [answers_rd h.free]

theorem completionPhase_answers {i : Instr} {s : State} (h : Running i s) (hphase : framePhase s.upc = .completion) :
    Answers (completionPhase s) := by
  unfold completionPhase
  split
  case h_6 =>
    unfold framePhase at hphase
    split at hphase <;> simp_all
  all_goals simp [answers_wr h.free, answers_gateArm h.free, answers_rd h.free]

theorem execFrameEnable_answers {s : State} (h : Running .frameEnable s) : Answers (execFrameEnable s) := by
  have hlabel := h.label
  unfold execFrameEnable
  split
  · exact answers_next _
  next hphase _ => exact enablePhase_answers h hphase
  · simp_all [labelOf]

theorem execFrameStream_answers {s : State} (h : Running .frameStream s) : Answers (execFrameStream s) := by
  have hlabel := h.label
  unfold execFrameStream
  split
  · exact answers_next _
  next hphase _ => exact streamPhase_answers h hphase
  next hphase _ => exact completionPhase_answers h hphase
  · simp_all [labelOf]

theorem execFrameRead_answers {s : State} (h : Running .frameRead s) : Answers (execFrameRead s) := by
  have hlabel := h.label
  unfold execFrameRead
  split
  · exact answers_next _
  next hphase _ => exact enablePhase_answers h hphase
  next hphase _ => exact streamPhase_answers h hphase
  next hphase _ => exact completionPhase_answers h hphase
  · cases hphase : framePhase s.upc <;> simp_all [labelOf]

/-- A micro-step of the command that runs does not stop. -/
theorem exec_answers {i : Instr} {s : State} (h : Running i s) : Answers (exec i s) := by
  cases i with
  | regWrite reg val => exact execRegWrite_answers h
  | regRead reg => exact execRegRead_answers h
  | init v => exact execInit_answers h
  | readMotion => exact execReadMotion_answers h
  | frameEnable => exact execFrameEnable_answers h
  | frameStream => exact execFrameStream_answers h
  | frameRead => exact execFrameRead_answers h
  | setLed on => exact execSetLed_answers h
  | wframe reg val => exact absurd h.label Bool.false_ne_true
  | rframe reg => exact absurd h.label Bool.false_ne_true

/-! ## The sequencer -/

/-- The link holds a wire frame, at an event of its transaction. -/
theorem runFrame_answers {s : State} (h : s.Inv) {f : Frame} {k : Nat} (hl : s.link = .carrying f k) :
    Answers (runFrame f s) := by
  have hk : k < frameLength f := by
    have hlinked := h.linked
    simp only [State.linked, hl, Bool.and_eq_true, decide_eq_true_eq] at hlinked
    exact hlinked.1
  have hpos : s.position = k := by simp [State.position, hl]
  unfold frameLength at hk
  cases hd : decodeFrame f with
  | error e => simp [hd] at hk
  | ok i =>
    rw [runFrame_of_decode s hd]
    obtain rfl | ⟨rfl, -⟩ := decodeFrame_cases hd <;> rw [hd, ← hpos] at hk <;> exact answers_carryFrame hk _

/-- A running engine has latched a command. -/
theorem runCommand_answers {s : State} (h : s.Inv) (hb : s.busy = true) (hl : ∀ f k, s.link ≠ .carrying f k) :
    Answers (runCommand s) := by
  have hseq := h.sequenced
  cases hd : decodeCommand s.latched with
  | error e => simp [State.sequenced, hb, hd] at hseq
  | ok i =>
    rw [runCommand_of_decode hd]
    exact exec_answers ⟨h, hb, hd, hl⟩

/-- An idle engine accepts a word, legal or not, or waits. -/
theorem pollPort_answers {s : State} (h : s.Inv) (hb : s.busy = false) : Answers (pollPort s) := by
  unfold pollPort acceptWord
  split
  · split
    next w _ _ _ i hd =>
      obtain ⟨hw, hr, -, -⟩ := decodeCommand_ok hd
      rw [exec_of_idle hw hr (s := s.latch w) (h.upc_idle hb)]
      exact answers_next _
    · exact answers_next _
  · exact answers_next _

/-- Settles O59, over what a step can do: reset, an event of a frame, a micro-step, a look at the port. -/
theorem noStepStopsUnderTheInvariant : Obligations.NoStepStopsUnderTheInvariant := by
  intro s h
  show Answers (step s)
  obtain ⟨-, hs⟩ | ⟨-, f, k, hl, hs⟩ | ⟨-, hl, hb, hs⟩ | ⟨-, hl, hb, hs⟩ := step_cases s
  · exact hs ▸ answers_next _
  · exact hs ▸ runFrame_answers h.clock (f := f) (k := k) hl
  · exact hs ▸ runCommand_answers h.clock hb hl
  · exact hs ▸ pollPort_answers h.clock hb

end Sys2Proof.Machine
end

section
/-! PROOFS. The two transactions, event by event and whole (40_bus_transaction.md R131 to R137; 41_register_access.md R150,
R151), and what a wire frame leaves unchanged. -/

namespace Sys2Proof.Machine

/-! ## One operation and its event -/

/-- The event an operation emits, the sensor answering `rx` to a transfer. -/
def BusOp.event (op : BusOp) (rx : Byte) : Event :=
  match op with
  | .acq => .acq
  | .rel => .rel
  | .csa => .csa
  | .csd => .csd
  | .dly us => .dly us
  | .xfer tx _ => .xfer tx rx

/-- The operation keeps the sensor's reply (R137). -/
def BusOp.keeps (op : BusOp) : Bool :=
  match op with
  | .xfer _ keep => keep
  | .acq | .rel | .csa | .csd | .dly _ => false

/-- Chip-select after an event (R132). -/
def Event.level (e : Event) (l : Level) : Level :=
  match e with
  | .csa => .asserted
  | .csd => .deasserted
  | _ => l

/-- Whether the session is open after an event (R131). -/
def Event.session (e : Event) (b : Bool) : Bool :=
  match e with
  | .acq => true
  | .rel => false
  | _ => b

/-- An operation emits its event, moves the lines as the event says, and keeps the reply or not. -/
theorem busOp_effect (op : BusOp) (s : State) :
    (s.busOp op).trace = op.event s.sensorByte :: s.trace ∧
    (s.busOp op).csl = (op.event s.sensorByte).level s.csl ∧
    (s.busOp op).session = (op.event s.sensorByte).session s.session ∧
    (s.busOp op).rx = (if op.keeps then s.sensorByte else s.rx) := by
  cases op <;> exact ⟨rfl, rfl, rfl, rfl⟩

/-- The operation due on the link is carried out, and the link goes on. -/
theorem carryFrame_of_due {f : Frame} {ops : List BusOp} {op : BusOp} {k : Nat} {s : State}
    (hl : s.link = .carrying f k ∨ (s.link = .idle ∧ k = 0)) (hop : ops[k]? = some op) :
    carryFrame f ops s = .next { s.busOp op with link := linkAfter f k ops.length s.busy } := by
  have hk : s.position = k := by
    obtain hl | ⟨hl, rfl⟩ := hl <;> simp [State.position, hl]
  simp only [carryFrame, hk, hop]

theorem linkAfter_of_lt {k len : Nat} (h : k + 1 < len) (f : Frame) (busy : Bool) :
    linkAfter f k len busy = .carrying f (k + 1) := if_pos h

theorem linkAfter_of_last {k len : Nat} (h : k + 1 = len) (f : Frame) (busy : Bool) :
    linkAfter f k len busy = if busy then .ended else .idle := if_neg (by omega)

/-! ## The events of a transaction -/

/-- What the operation due does, told by its event. -/
theorem carryFrame_event {f : Frame} {ops : List BusOp} {op : BusOp} {e : Event} {k : Nat} {s : State}
    (hl : s.link = .carrying f k ∨ (s.link = .idle ∧ k = 0)) (hop : ops[k]? = some op)
    (he : op.event s.sensorByte = e) :
    ∃ t, carryFrame f ops s = .next t ∧ t.trace = e :: s.trace ∧ t.csl = e.level s.csl ∧
      t.session = e.session s.session ∧ t.rx = (if op.keeps then s.sensorByte else s.rx) ∧
      (k + 1 < ops.length → t.link = .carrying f (k + 1)) ∧
      (k + 1 = ops.length → t.link = if s.busy then .ended else .idle) := by
  subst he
  obtain ⟨htrace, hcsl, hsession, hrx⟩ := busOp_effect op s
  exact ⟨_, carryFrame_of_due hl hop, htrace, hcsl, hsession, hrx, fun hk => linkAfter_of_lt hk f s.busy,
    fun hk => linkAfter_of_last hk f s.busy⟩

/-- A write transaction keeps no reply (R136). -/
theorem keeps_of_mem_txw {a d : Byte} {op : BusOp} (h : op ∈ txw a d) : op.keeps = false := by
  revert op; simp [txw, BusOp.keeps]

/-- Event number `k` of a write transaction is that of its operation number `k`. -/
theorem txwEvents_getElem? {a d rx : Byte} {k : Nat} {e : Event} (h : (txwEvents a d rx rx)[k]? = some e) :
    ∃ op, (txw a d)[k]? = some op ∧ op.event rx = e := by
  have hk : k < 10 := (List.getElem?_eq_some_iff.mp h).1
  interval_cases k <;> cases h <;> exact ⟨_, rfl, rfl⟩

/-- Event number `k` of a read transaction is that of its operation number `k`; t5 alone keeps its reply. -/
theorem txrEvents_getElem? {a rx : Byte} {k : Nat} {e : Event} (h : (txrEvents a rx rx)[k]? = some e) :
    ∃ op, (txr a)[k]? = some op ∧ op.event rx = e ∧ op.keeps = decide (k = 5) := by
  have hk : k < 9 := (List.getElem?_eq_some_iff.mp h).1
  interval_cases k <;> cases h <;> exact ⟨_, rfl, rfl, rfl⟩

/-- Settles O12: no operation of a write transaction keeps its reply. -/
theorem writeTransactionEvents : Obligations.WriteTransactionEvents := by
  intro reg val s k e hl h
  obtain ⟨op, hop, he⟩ := txwEvents_getElem? h
  have hkeep : op.keeps = false := keeps_of_mem_txw (List.mem_of_getElem? hop)
  obtain ⟨t, ht, htrace, hcsl, hsession, hrx, hnext, hlast⟩ := carryFrame_event hl hop he
  exact ⟨t, ht, htrace, hcsl, hsession, by simpa [hkeep] using hrx, fun hk => hnext (Nat.succ_lt_succ hk),
    fun hk => hlast (congrArg Nat.succ hk)⟩

/-- The address byte of a read frame is the 7-bit address itself (R102, R103). -/
theorem readAddr_regByte_eq (reg : RegAddr) : readAddr (regByte reg) = reg.setWidth 8 := by
  revert reg; decide

/-- Settles O13: the second transfer is operation 5, the one that keeps its reply. -/
theorem readTransactionEvents : Obligations.ReadTransactionEvents := by
  intro reg s k e hl h
  rw [← readAddr_regByte_eq] at h
  obtain ⟨op, hop, he, hkeep⟩ := txrEvents_getElem? h
  obtain ⟨t, ht, htrace, hcsl, hsession, hrx, hnext, hlast⟩ := carryFrame_event hl hop he
  exact ⟨t, ht, htrace, hcsl, hsession, by simpa [hkeep] using hrx, fun hk => hnext (Nat.succ_lt_succ hk),
    fun hk => hlast (congrArg Nat.succ hk)⟩

/-! ## Whole transactions -/

/-- The operations `ops`, in order. -/
def State.busOps (ops : List BusOp) (s : State) : State := ops.foldl (fun u op => u.busOp op) s

/-- What is left of a frame's transaction, one operation a step. -/
theorem run_carrying {f : Frame} {ops : List BusOp}
    (hstep : ∀ (s : State) (k : Nat), s.rstIn = [] → s.link = .carrying f k → step s = carryFrame f ops s)
    {rest : List BusOp} (hne : rest ≠ []) {k : Nat} (hrest : ops.drop k = rest) {s : State} (hr : s.rstIn = []) :
    run rest.length { s with link := .carrying f k } =
      .next { s.busOps rest with link := if s.busy then .ended else .idle } := by
  induction rest generalizing k s with
  | nil => exact absurd rfl hne
  | cons op rest ih =>
    have hop : ops[k]? = some op := by rw [← List.head?_drop, hrest]; rfl
    have htail : ops.drop (k + 1) = rest := by rw [← List.tail_drop, hrest]; rfl
    have hlen : ops.length - k = rest.length + 1 := by rw [← List.length_drop, hrest]; rfl
    have hone : run 1 { s with link := .carrying f k } =
        .next { s.busOp op with link := linkAfter f k ops.length s.busy } := by
      refine run_one ((hstep { s with link := .carrying f k } k hr rfl).trans ?_)
      rw [carryFrame_of_due (s := { s with link := .carrying f k }) (.inl rfl) hop]
      cases op <;> rfl
    have hbusy : (s.busOp op).busy = s.busy := by cases op <;> rfl
    have hquiet : (s.busOp op).rstIn = [] := by cases op <;> exact hr
    rw [List.length_cons, Nat.add_comm, run_add _ hone]
    cases rest with
    | nil => rw [linkAfter_of_last (by simp only [List.length_nil] at hlen; omega)]; rfl
    | cons op' rest =>
      rw [linkAfter_of_lt (by simp only [List.length_cons] at hlen; omega), ih (by simp) htail hquiet, hbusy]
      rfl

/-- A whole transaction, from its first event. -/
theorem run_transaction {f : Frame} {ops : List BusOp} (hne : ops ≠ [])
    (hstep : ∀ (s : State) (k : Nat), s.rstIn = [] → s.link = .carrying f k → step s = carryFrame f ops s)
    {s : State} (hl : s.link = .carrying f 0) (hr : s.rstIn = []) :
    run ops.length s = .next { s.busOps ops with link := if s.busy then .ended else .idle } := by
  have hs : s = { s with link := .carrying f 0 } := by rw [← hl]
  exact (congrArg (run ops.length) hs).trans (run_carrying hstep hne List.drop_zero hr)

/-! The two transfers of a transaction take the next two answers, from the environment's list while it lasts. -/

theorem busOps_txw (a d : Byte) : ∀ s : State, s.busOps (txw a d) =
    { s.answered 2 with
      csl := .deasserted, session := false,
      trace := (txwEvents a d (s.replyAt 0) (s.replyAt 1)).reverse ++ s.trace }
  | { replies := [], .. } => rfl
  | { replies := [_], .. } => rfl
  | { replies := _ :: _ :: _, .. } => rfl

theorem busOps_txr (a : Byte) : ∀ s : State, s.busOps (txr a) =
    { s.answered 2 with
      csl := .deasserted, session := false, rx := s.replyAt 1,
      trace := (txrEvents a (s.replyAt 0) (s.replyAt 1)).reverse ++ s.trace }
  | { replies := [], .. } => rfl
  | { replies := [_], .. } => rfl
  | { replies := _ :: _ :: _, .. } => rfl

/-- Settles O14: the engine's write frame runs the ten operations of `TXW`, one a step. -/
theorem writeTransactionRun : Obligations.WriteTransactionRun := by
  intro r v s hl hr
  have hstep (u : State) (k : Nat) (hu : u.rstIn = []) (hk : u.link = .carrying (writeFrame r v) k) :
      step u = carryFrame (writeFrame r v) (txw (0x80#8 ||| r) v) u := by
    rw [step_of_writeFrame hu hk, exec, execWframe, wframeBits_setWidth, writeAddr_regByte]
  have hrun := run_transaction (by simp [txw]) hstep hl hr
  rw [busOps_txw] at hrun
  exact hrun

/-- Settles O15: the engine's read frame runs the nine operations of `TXR`, one a step. -/
theorem readTransactionRun : Obligations.ReadTransactionRun := by
  intro r s hl hr
  have hstep (u : State) (k : Nat) (hu : u.rstIn = []) (hk : u.link = .carrying (readFrame r) k) :
      step u = carryFrame (readFrame r) (txr (r &&& 0x7F#8)) u := by
    rw [step_of_readFrame hu hk, exec, execRframe, rframeBits_setWidth, readAddr_regByte]
  have hrun := run_transaction (by simp [txr]) hstep hl hr
  rw [busOps_txr] at hrun
  exact hrun

/-! ## What a wire frame leaves unchanged -/

/-- A carried frame changes the lines, the link, the reply, the sensor's inputs and the trace, and nothing else. -/
theorem carryFrame_frame {f : Frame} {ops : List BusOp} {s t : State} (h : carryFrame f ops s = .next t) :
    t = { s with csl := t.csl, session := t.session, link := t.link, rx := t.rx, replies := t.replies,
                 xfers := t.xfers, trace := t.trace } := by
  obtain ⟨op, -, rfl⟩ := carryFrame_next h
  obtain ⟨rx, replies, xfers, trace, hbus⟩ := busOp_eq op s
  rw [hbus]

/-- No transfer of a write frame keeps its reply. -/
theorem execWframe_rx {reg : RegAddr} {val : Byte} {s t : State} (h : execWframe reg val s = .next t) :
    t.rx = s.rx := by
  obtain ⟨op, hop, rfl⟩ := carryFrame_next h
  obtain ⟨-, -, -, hrx⟩ := busOp_effect op s
  simpa [keeps_of_mem_txw (List.mem_of_getElem? hop)] using hrx

/-- Settles O49: both frames are carried, and a write frame keeps no reply. -/
theorem wireFrameFrame : Obligations.WireFrameFrame := by
  intro i s t hi h
  obtain ⟨f, ops, hcarry⟩ : ∃ f ops, carryFrame f ops s = .next t := by
    obtain ⟨reg, val, rfl⟩ | ⟨reg, rfl⟩ := hi <;> exact ⟨_, _, h⟩
  have hframe := carryFrame_frame hcarry
  refine ⟨hframe, ?_, fun j => ?_⟩
  · rintro ⟨reg, val, rfl⟩
    exact execWframe_rx h
  · rw [hframe]

end Sys2Proof.Machine
end

section
/-! PROOFS. REG_WRITE and REG_READ (41_register_access.md R150 to R155): their micro-steps, whole commands from an idle
engine, what they leave unchanged, and that only a wire frame transfers a byte. -/

namespace Sys2Proof.Machine

/-! ## Micro-steps -/

/-- A micro-step that is a `WR` forms the frame of R101 and goes on when its transaction is over. -/
theorem writes_of_wr {i : Instr} {l next : Label} {reg val : Byte}
    (h : ∀ s : State, s.upc = l → exec i s = wr reg val next s) : Writes i l reg val next := by
  refine fun s hu => ⟨fun hl => ?_, fun hl => ?_⟩
  · rw [h s hu, wr, hl]
    rfl
  · rw [h s hu, wr, hl]

/-- A micro-step that is an `RD` forms the frame of R102 and stores the reply when its transaction is over. -/
theorem reads_of_rd {i : Instr} {l next : Label} {reg : Byte} {store : Byte → State → State}
    (h : ∀ s : State, s.upc = l → exec i s = rd reg store next s) : Reads i l reg store next := by
  refine fun s hu => ⟨fun hl => ?_, fun hl => ?_⟩
  · rw [h s hu, rd, hl]
    rfl
  · rw [h s hu, rd, hl]

/-- Settles O16: W0 is one `WR`, W1 is `done`. -/
theorem regWriteMicroSteps : Obligations.RegWriteMicroSteps := by
  refine fun reg val => ⟨fun s hu => ?_, writes_of_wr fun s hu => ?_, fun s hu => ?_⟩
  · exact exec_of_idle (by simp) (by simp) hu
  · simp only [exec, execRegWrite, hu]
  · simp only [exec, execRegWrite, hu]
    rfl

/-- Settles O17: Q0 is one `RD` into `RDATA`, Q1 is `done`. -/
theorem regReadMicroSteps : Obligations.RegReadMicroSteps := by
  refine fun reg => ⟨fun s hu => ?_, reads_of_rd fun s hu => ?_, fun s hu => ?_⟩
  · exact exec_of_idle (by simp) (by simp) hu
  · simp only [exec, execRegRead, hu]
    rfl
  · simp only [exec, execRegRead, hu]
    rfl

/-! ## Runs of a command, one micro-step at a time -/

/-- The command `i` runs at its label `l`, between two transactions, and `rst` stays quiet. -/
structure State.Performs (s : State) (i : Instr) (l : Label) : Prop where
  busy : s.busy = true
  atLabel : s.upc = l
  linkIdle : s.link = .idle
  rstQuiet : s.rstIn = []
  decodes : decodeCommand s.latched = .ok i

/-- An idle engine that is offered a command stands at the command's first micro-step a step later (R40). -/
theorem State.Offers.run_accept {s : State} {w : Cmd} {i : Instr} (h : s.Offers w) (hd : decodeCommand w = .ok i) :
    run 1 s = .next ((s.latch w).dispatchTo (entryLabel i)) ∧
    ((s.latch w).dispatchTo (entryLabel i)).Performs i (entryLabel i) := by
  obtain ⟨hw, hr, -, -⟩ := decodeCommand_ok hd
  have hidle : (s.latch w).upc = .idle := h.atIdle
  have hstep : step s = .next ((s.latch w).dispatchTo (entryLabel i)) := by
    rw [step_of_offers h, acceptWord_of_decode s hd, exec_of_idle hw hr hidle]
  exact ⟨run_one hstep, rfl, rfl, h.linkIdle, h.rstQuiet, (congrArg decodeCommand (latched_latch w s)).trans hd⟩

/-- A micro-step that is no transaction takes one step. -/
theorem State.Performs.run_computes {s : State} {i : Instr} {l : Label} {f : State → State} (h : s.Performs i l)
    (hf : Computes i l f) : run 1 s = .next (f s) :=
  run_one ((step_of_command h.rstQuiet h.busy (.inl h.linkIdle) h.decodes).trans (hf s h.atLabel))

/-- `s` with the write transaction of `WR(reg, val)` over and the micro-step not yet ended (R136, R150). -/
def State.wrote (reg val : Byte) (s : State) : State :=
  { s.answered 2 with
    csl := .deasserted, session := false, link := .ended,
    trace := (txwEvents (0x80#8 ||| reg) val (s.replyAt 0) (s.replyAt 1)).reverse ++ s.trace }

/-- `s` with the read transaction of `RD(reg)` over and its reply not yet stored (R137, R151). -/
def State.replied (reg : Byte) (s : State) : State :=
  { s.answered 2 with
    csl := .deasserted, session := false, link := .ended, rx := s.replyAt 1,
    trace := (txrEvents (reg &&& 0x7F#8) (s.replyAt 0) (s.replyAt 1)).reverse ++ s.trace }

/-- The write transaction a running command has put on the link. -/
theorem run_sending_writeFrame {s : State} (hb : s.busy = true) (hr : s.rstIn = []) (reg val : Byte) :
    run 10 (s.sending (writeFrame reg val)) = .next (s.wrote reg val) := by
  have hlink : (if (s.sending (writeFrame reg val)).busy then Link.ended else .idle) = .ended := if_pos hb
  have hrun := writeTransactionRun reg val (s.sending (writeFrame reg val)) rfl hr
  rw [hlink] at hrun
  exact hrun

/-- The read transaction a running command has put on the link. -/
theorem run_sending_readFrame {s : State} (hb : s.busy = true) (hr : s.rstIn = []) (reg : Byte) :
    run 9 (s.sending (readFrame reg)) = .next (s.replied reg) := by
  have hlink : (if (s.sending (readFrame reg)).busy then Link.ended else .idle) = .ended := if_pos hb
  have hrun := readTransactionRun reg (s.sending (readFrame reg)) rfl hr
  rw [hlink] at hrun
  exact hrun

/-- The micro-step is over: the link is free, and `UPC` at the label `next` (R150, R151). -/
def State.proceed (next : Label) (s : State) : State := { s with link := .idle, upc := next }

/-- Whether a command runs, which one, and `rst` are in `t` as they are in `s`. -/
def SameCommand (s t : State) : Prop := t.busy = s.busy ∧ t.rstIn = s.rstIn ∧ t.latched = s.latched

theorem State.Performs.proceed {s t : State} {i : Instr} {l : Label} (h : s.Performs i l) (hst : SameCommand s t)
    (next : Label) : (t.proceed next).Performs i next := by
  obtain ⟨hbusy, hrst, hlatched⟩ := hst
  exact ⟨hbusy.trans h.busy, rfl, rfl, hrst.trans h.rstQuiet, (congrArg decodeCommand hlatched).trans h.decodes⟩

/-- A `WR` takes a step to put its frame on the link, ten for the transaction and one to go on. -/
theorem State.Performs.run_writes {s : State} {i : Instr} {l next : Label} {reg val : Byte} (h : s.Performs i l)
    (hw : Writes i l reg val next) :
    run 12 s = .next ((s.wrote reg val).proceed next) ∧ ((s.wrote reg val).proceed next).Performs i next := by
  refine ⟨?_, h.proceed (t := s.wrote reg val) ⟨rfl, rfl, rfl⟩ next⟩
  obtain ⟨hb, hu, hl, hr, hd⟩ := h
  have hstart : step s = .next (s.sending (writeFrame reg val)) :=
    (step_of_command hr hb (.inl hl) hd).trans ((hw s hu).1 hl)
  have hend : step (s.wrote reg val) = .next ((s.wrote reg val).proceed next) :=
    (step_of_command (s := s.wrote reg val) hr hb (.inr rfl) hd).trans ((hw (s.wrote reg val) hu).2 rfl)
  rw [run_add 11 (run_one hstart), run_add 1 (run_sending_writeFrame hb hr reg val), run_one hend]

/-- An `RD` takes a step to put its frame on the link, nine for the transaction and one to store the reply. -/
theorem State.Performs.run_reads {s : State} {i : Instr} {l next : Label} {reg : Byte}
    {store : Byte → State → State} (h : s.Performs i l) (hrd : Reads i l reg store next)
    (hstore : ∀ v u, SameCommand u (store v u)) :
    run 11 s = .next ((store (s.replyAt 1) (s.replied reg)).proceed next) ∧
    ((store (s.replyAt 1) (s.replied reg)).proceed next).Performs i next := by
  refine ⟨?_, h.proceed (hstore _ (s.replied reg)) next⟩
  obtain ⟨hb, hu, hl, hr, hd⟩ := h
  have hstart : step s = .next (s.sending (readFrame reg)) :=
    (step_of_command hr hb (.inl hl) hd).trans ((hrd s hu).1 hl)
  have hend : step (s.replied reg) = .next ((store (s.replyAt 1) (s.replied reg)).proceed next) :=
    (step_of_command (s := s.replied reg) hr hb (.inr rfl) hd).trans ((hrd (s.replied reg) hu).2 rfl)
  rw [run_add 10 (run_one hstart), run_add 1 (run_sending_readFrame hb hr reg), run_one hend]

/-! ## Whole commands -/

/-- A state that offers a word already holds the values of an idle engine. -/
theorem State.Offers.idled {s : State} {w : Cmd} (h : s.Offers w) :
    { s with busy := false, upc := .idle, link := .idle } = s := by
  obtain ⟨hbusy, hupc, hlink, -, -⟩ := h
  rw [← hbusy, ← hupc, ← hlink]

/-- Settles O18: acceptance, one `WR`, `done`. -/
theorem regWriteRun : Obligations.RegWriteRun := by
  intro s w h hop
  have hd : decodeCommand w = .ok (.regWrite (stripHighBit (cmdReg w)) (cmdVal w)) := by simp [decodeCommand, hop]
  have haddr : 0x80#8 ||| stripHighBit (cmdReg w) = 0x80#8 ||| cmdReg w := writeAddr_and_mask (cmdReg w)
  obtain ⟨-, hw0, hw1⟩ := regWriteMicroSteps (stripHighBit (cmdReg w)) (cmdVal w)
  obtain ⟨haccept, hp0⟩ := h.run_accept hd
  obtain ⟨hwrite, hp1⟩ := hp0.run_writes hw0
  rw [run_add 13 haccept, run_add 1 hwrite, hp1.run_computes hw1, State.wrote, haddr]
  conv_rhs => rw [← h.idled]
  rfl

/-- Settles O19: acceptance, one `RD` into `RDATA`, `done`, after which the host may read it. -/
theorem regReadRun : Obligations.RegReadRun := by
  intro s w h hop
  have hd : decodeCommand w = .ok (.regRead (stripHighBit (cmdReg w))) := by simp [decodeCommand, hop]
  have haddr : stripHighBit (cmdReg w) &&& 0x7F#8 = cmdReg w &&& 0x7F#8 := readAddr_and_mask (cmdReg w)
  obtain ⟨-, hq0, hq1⟩ := regReadMicroSteps (stripHighBit (cmdReg w))
  obtain ⟨haccept, hp0⟩ := h.run_accept hd
  obtain ⟨hread, hp1⟩ := hp0.run_reads hq0 fun _ _ => ⟨rfl, rfl, rfl⟩
  have hrun := (run_add 12 haccept).trans ((run_add 1 hread).trans (hp1.run_computes hq1))
  refine ⟨_, hrun, rfl, ?_⟩
  rw [State.replied, haddr]
  conv_rhs => rw [← h.idled]
  rfl

/-! ## What an instruction leaves unchanged -/

/-- From `s` to `t` at most the status flags that an end writes, `UPC`, the link and the trace change; `BUSY` changes
only into or out of `IDLE`, and `OK` and `ERR` only at an end. -/
structure StatusStep (s t : State) : Prop where
  frame : t = { s with busy := t.busy, ok := t.ok, err := t.err, upc := t.upc, link := t.link, trace := t.trace }
  busy : t.busy = s.busy ∨ s.upc = .idle ∨ t.upc = .idle
  status : t.upc ≠ .idle → t.ok = s.ok ∧ t.err = s.err

theorem wr_statusStep (reg val : Byte) (l : Label) (s : State) : Ensures (StatusStep s) (wr reg val l s) :=
  (ensures_wr ..).mpr
    ⟨fun _ => ⟨rfl, .inl rfl, fun _ => ⟨rfl, rfl⟩⟩, fun _ => ⟨rfl, .inl rfl, fun _ => ⟨rfl, rfl⟩⟩⟩

theorem wait_statusStep (us : Nat) (l : Label) (s : State) : Ensures (StatusStep s) (wait us l s) :=
  ⟨rfl, .inl rfl, fun _ => ⟨rfl, rfl⟩⟩

theorem dispatchTo_statusStep {s : State} (hu : s.upc = .idle) (l : Label) : StatusStep s (s.dispatchTo l) :=
  ⟨rfl, .inr (.inl hu), fun _ => ⟨rfl, rfl⟩⟩

theorem done_statusStep (s : State) : StatusStep s s.done :=
  ⟨rfl, .inr (.inr rfl), fun hne => absurd rfl hne⟩

theorem execRegWrite_statusStep (reg val : Byte) (s : State) : Ensures (StatusStep s) (execRegWrite reg val s) := by
  unfold execRegWrite
  split
  case h_1 hu => exact dispatchTo_statusStep hu _
  case h_2 => exact wr_statusStep ..
  case h_3 => exact done_statusStep s
  case h_4 => exact ensures_fault ..

theorem execSetLed_statusStep (on : Bool) (s : State) : Ensures (StatusStep s) (execSetLed on s) := by
  unfold execSetLed
  split
  case h_1 hu => exact dispatchTo_statusStep hu _
  case h_2 => exact wait_statusStep ..
  case h_3 | h_4 | h_5 => exact wr_statusStep ..
  case h_6 => exact done_statusStep s
  case h_7 => exact ensures_fault ..

/-- Settles O43: both commands are made of acceptance, `WR`s, a wait and `done`. -/
theorem regWriteAndSetLedFrame : Obligations.RegWriteAndSetLedFrame := by
  intro i s t hi h
  obtain ⟨hframe, hbusy, hstatus⟩ : StatusStep s t := by
    obtain ⟨reg, val, rfl⟩ | ⟨on, rfl⟩ := hi
    · exact ensures_iff.mp (execRegWrite_statusStep reg val s) t h
    · exact ensures_iff.mp (execSetLed_statusStep on s) t h
  exact ⟨hframe, hbusy, hstatus, fun j => by rw [hframe]⟩

/-- REG_READ answers a next state in four cases: it is dispatched, starts its transaction, stores the reply, or ends. -/
theorem execRegRead_next {reg : Byte} {s t : State} (h : execRegRead reg s = .next t) :
    (s.upc = .idle ∧ t = s.dispatchTo .q0) ∨
    (s.upc = .q0 ∧ t = s.sending (readFrame reg)) ∨
    (s.upc = .q0 ∧ t = { s.setRdata s.rx with link := .idle, upc := .q1 }) ∨
    (s.upc = .q1 ∧ t = s.done) := by
  unfold execRegRead at h
  split at h
  case h_1 hu => cases h; exact .inl ⟨hu, rfl⟩
  case h_2 hu =>
    obtain ⟨-, ht⟩ | ⟨-, ht⟩ := rd_next h
    · exact .inr (.inl ⟨hu, ht⟩)
    · exact .inr (.inr (.inl ⟨hu, ht⟩))
  case h_3 hu => cases h; exact .inr (.inr (.inr ⟨hu, rfl⟩))
  case h_4 => cases h

/-- Settles O44, over what REG_READ can do; only the stored reply touches `RDATA`, and only the end the flags. -/
theorem regReadFrame : Obligations.RegReadFrame := by
  intro reg s t h
  obtain ⟨-, rfl⟩ | ⟨-, rfl⟩ | ⟨hu, rfl⟩ | ⟨-, rfl⟩ := execRegRead_next h
  · exact ⟨rfl, fun _ => rfl, fun _ => ⟨rfl, rfl⟩, fun _ => rfl⟩
  · exact ⟨rfl, fun _ => rfl, fun _ => ⟨rfl, rfl⟩, fun _ => rfl⟩
  · exact ⟨rfl, fun hne => absurd hu hne, fun _ => ⟨rfl, rfl⟩, fun _ => rfl⟩
  · exact ⟨rfl, fun _ => rfl, fun hne => absurd rfl hne, fun _ => rfl⟩

/-- Settles O53: label by label, a command's own micro-step is an `OwnBusStep`. -/
theorem onlyWireFramesReachTheBus : Obligations.OnlyWireFramesReachTheBus :=
  fun _ s t hw hr h => ensures_iff.mp (exec_ownBusStep hw hr s) t h

end Sys2Proof.Machine
end

section
/-! PROOFS. INIT's micro-steps, label by label (42_init.md R170 to R187), and what they leave unchanged. -/

namespace Sys2Proof.Machine

/-! ## Branch conditions and calibration values -/

theorem probeFails_iff (id0 id1 : Byte) : probeFails id0 id1 = true ↔ id0 ≠ 0x49#8 ∧ id1 ≠ 0xB8#8 := by
  simp [probeFails]

theorem finalFails_iff (id0 id1 : Byte) : finalFails id0 id1 = true ↔ ¬(id0 = 0x49#8 ∧ id1 = 0x00#8) := by
  rw [not_and_or]
  simp [finalFails]

theorem skipsCalibration_iff (t : Byte) : skipsCalibration t = true ↔ ¬t = 0x00#8 := by simp [skipsCalibration]

/-- Bit 7 by value (R177). -/
theorem highBit_iff (t : Byte) : highBit t = true ↔ ¬t.toNat < 128 := by revert t; decide

theorem variantUnsupported_iff (code : Byte) : variantUnsupported code = true ↔ ¬(code = 0x00#8 ∨ code = 0x01#8) := by
  revert code; decide

/-- The list a variant selects (R184). -/
theorem bulkItems_eq_some {p : Params} {code : Byte} {list : List SeqItem} :
    bulkItems p code = some list ↔
      (code = 0x00#8 ∧ list = p.bulkA.items) ∨ (code = 0x01#8 ∧ list = p.bulkB.items) := by
  by_cases hA : code = 0x00#8
  · simp [hA, bulkItems, variantOf, eq_comm]
  · by_cases hB : code = 0x01#8
    · simp [hB, bulkItems, variantOf, eq_comm]
    · simp [hA, hB, bulkItems, variantOf]

theorem c1Adjust_toNat {c : BitVec 9} (hc : c.toNat ≤ 255) :
    (c1Adjust c).toNat = c.toNat + if c.toNat ≤ 28 then 14 else 11 := by
  have heq : c1Adjust c = if c.toNat ≤ 28 then c + 14#9 else c + 11#9 := rfl
  rw [heq]
  split
  · rw [BitVec.toNat_add_of_lt (by simp; omega)]; rfl
  · rw [BitVec.toNat_add_of_lt (by simp; omega)]; rfl

theorem c1Clamp_toNat (c : BitVec 9) : (c1Clamp c).toNat = min c.toNat 63 := by
  rw [c1Clamp_eq]
  split
  · omega
  · simp; omega

theorem c2Scale_toNat {c : BitVec 14} (hc : c.toNat ≤ 255) : (c2Scale c).toNat = c.toNat * 45 := by
  rw [c2Scale, BitVec.toNat_mul]
  exact Nat.mod_eq_of_lt (by simp; omega)

/-- Settles O24: the sum stays below 512, the product below 16384, and the clamped value below 256. -/
theorem calibrationValues : Obligations.CalibrationValues := by
  intro r1 r2
  have h1 : (r1.setWidth 9).toNat = r1.toNat := by simp; omega
  have h2 : (r2.setWidth 14).toNat = r2.toNat := by simp; omega
  have hc2 : (c2Scale (r2.setWidth 14)).toNat = r2.toNat * 45 := by rw [c2Scale_toNat (by omega), h2]
  refine ⟨?_, ?_, hc2, by simp [narrow, hc2]⟩
  · rw [c1Clamp_toNat, c1Adjust_toNat (by omega), h1]
    split_ifs <;> omega
  · rw [narrow, BitVec.toNat_setWidth, c1Clamp_toNat]
    omega

/-! ## The kinds of micro-steps

The statement expected says the kind; what INIT means at the label is found by evaluation, but at a branch. -/

theorem computes_of_execInit {v : Byte} {l : Label} {f : State → State}
    (h : ∀ s : State, execInit v { s with upc := l } = .next (f { s with upc := l }) := by exact fun _ => rfl) :
    Computes (.init v) l f := by
  rintro s rfl
  exact h s

theorem waits_of_execInit {v : Byte} {l next : Label} {us : Nat}
    (h : ∀ s : State, execInit v { s with upc := l } = wait us next { s with upc := l } := by exact fun _ => rfl) :
    Waits (.init v) l us next :=
  computes_of_execInit h

theorem writes_of_execInit {v : Byte} {l next : Label} {reg val : Byte}
    (h : ∀ s : State, execInit v { s with upc := l } = wr reg val next { s with upc := l } := by
      exact fun _ => rfl) :
    Writes (.init v) l reg val next := by
  refine writes_of_wr ?_
  rintro s rfl
  exact h s

theorem reads_of_execInit {v : Byte} {l next : Label} {reg : Byte} {store : Byte → State → State}
    (h : ∀ s : State, execInit v { s with upc := l } = rd reg store next { s with upc := l } := by
      exact fun _ => rfl) :
    Reads (.init v) l reg store next := by
  refine reads_of_rd ?_
  rintro s rfl
  exact h s

/-- In the state `s` the instruction performs `WR(reg, val)` and goes on to `next`: `Writes` at one state, where the
value written depends on it. -/
def WritesFrom (i : Instr) (reg val : Byte) (next : Label) (s : State) : Prop :=
  (s.link = .idle → exec i s = .next (s.sending (writeFrame reg val))) ∧
  (s.link = .ended → exec i s = .next { s with link := .idle, upc := next })

theorem writesFrom_of_wr {i : Instr} {reg val : Byte} {next : Label} {s : State} (h : exec i s = wr reg val next s) :
    WritesFrom i reg val next s := by
  refine ⟨fun hl => ?_, fun hl => ?_⟩
  · rw [h, wr, hl]
    rfl
  · rw [h, wr, hl]

/-- The write frame of a sequence item (R116). -/
theorem writeFrame_regByte (reg : RegAddr) (val : Byte) : writeFrame (regByte reg) val = wframeBits reg val := by
  rw [← wframeBits_setWidth, setWidth_regByte]

/-- I24 (R177). -/
theorem writesFrom_i24 (v : Byte) {s : State} (hu : s.upc = .i24) :
    WritesFrom (.init v) 0x48#8 (if highBit s.t then 0x04#8 else 0x02#8) .i25 s :=
  writesFrom_of_wr (by simp only [exec, execInit, hu])

/-- I41 (R182). -/
theorem writesFrom_i41 (v : Byte) {s : State} (hu : s.upc = .i41) :
    WritesFrom (.init v) 0x70#8 (narrow s.c1) .i42 s :=
  writesFrom_of_wr (by simp only [exec, execInit, hu])

/-- I42 (R182). -/
theorem writesFrom_i42 (v : Byte) {s : State} (hu : s.upc = .i42) :
    WritesFrom (.init v) 0x71#8 (narrow s.c2) .i43 s :=
  writesFrom_of_wr (by simp only [exec, execInit, hu])

/-- I46 at a write (R184). -/
theorem writesFrom_i46 (v : Byte) {s : State} {list : List SeqItem} {w : SeqWrite} (hu : s.upc = .i46)
    (hlist : bulkItems s.cfg s.var = some list) (hitem : list[s.idx]? = some (.write w)) :
    WritesFrom (.init v) (regByte w.reg) w.val .i47 s :=
  writesFrom_of_wr (by simp only [exec, execInit, hu, bulkApply, State.bulkItem, hlist, hitem])

/-- I45, over the list the variant selects (R184). -/
theorem exec_i45 (v : Byte) {s : State} {list : List SeqItem} (hu : s.upc = .i45)
    (hlist : bulkItems s.cfg s.var = some list) :
    exec (.init v) s = .next (s.goto (if s.idx = list.length then .i48 else .i46)) := by
  simp only [exec, execInit, hu, bulkTest, hlist]

/-! ## The list of R171 -/

/-- Settles O20, step 1 and step 2 of INIT. -/
theorem initResetsTheSensor : Obligations.InitResetsTheSensor := fun _ =>
  ⟨computes_of_execInit, computes_of_execInit, computes_of_execInit, waits_of_execInit, computes_of_execInit,
    waits_of_execInit, computes_of_execInit, waits_of_execInit, writes_of_execInit, waits_of_execInit⟩

/-- Settles O21, step 3 and step 4 of INIT; the branch is I11. -/
theorem initProbesIdentityAndPrimes : Obligations.InitProbesIdentityAndPrimes := by
  refine fun v => ⟨reads_of_execInit, reads_of_execInit, computes_of_execInit fun s => ?_, reads_of_execInit,
    reads_of_execInit, reads_of_execInit, reads_of_execInit, reads_of_execInit, waits_of_execInit⟩
  simp only [execInit, probeFails_iff]
  rfl

/-- Settles O22, step 5 of INIT up to its second branch, I31; at I24 the value written is the branch. -/
theorem initTunes : Obligations.InitTunes := by
  refine fun v => ⟨writes_of_execInit, writes_of_execInit, writes_of_execInit, writes_of_execInit, writes_of_execInit,
    reads_of_execInit, fun s hu hl => ?_, fun s hu hl => (writesFrom_i24 v hu).2 hl, writes_of_execInit,
    writes_of_execInit, writes_of_execInit, writes_of_execInit, writes_of_execInit, reads_of_execInit,
    computes_of_execInit fun s => ?_⟩
  · rw [(writesFrom_i24 v hu).1 hl]
    simp only [highBit_iff, ite_not, apply_ite (writeFrame 0x48#8)]
    rfl
  · simp only [execInit, skipsCalibration_iff, ite_not]
    rfl

/-- Settles O23, the calibration block; the lower bound of the clamp at I35 is never reached. -/
theorem initCalibrates : Obligations.InitCalibrates := by
  refine fun v => ⟨reads_of_execInit, reads_of_execInit, computes_of_execInit, computes_of_execInit fun s => ?_,
    computes_of_execInit, writes_of_execInit, writes_of_execInit, writes_of_execInit, writes_of_execInit,
    fun s hu hl => (writesFrom_i41 v hu).1 hl, fun s hu hl => (writesFrom_i41 v hu).2 hl,
    fun s hu hl => (writesFrom_i42 v hu).1 hl, fun s hu hl => (writesFrom_i42 v hu).2 hl⟩
  simp only [execInit, c1Clamp_eq]

/-- Settles O25, step 6 of INIT, over the list the variant selects. -/
theorem initLoadsTheVariantList : Obligations.InitLoadsTheVariantList := by
  refine fun v s list => ⟨fun hu => ?_, fun hu => ?_, fun hsel => ?_, fun hu => ?_⟩
  · simp only [exec, execInit, hu, variantUnsupported_iff, ite_not]
    rfl
  · simp only [exec, execInit, hu]
  · have hlist := bulkItems_eq_some.mpr hsel
    refine ⟨fun hu => exec_i45 v hu hlist, fun reg val hu hitem => ?_, fun hu hitem => ?_⟩
    · have hwrites := writesFrom_i46 v hu hlist hitem
      rw [WritesFrom, writeFrame_regByte] at hwrites
      exact hwrites
    · simp only [exec, execInit, hu, bulkApply, State.bulkItem, hlist, hitem]
      rfl
  · simp only [exec, execInit, hu]

/-- Settles O26, step 7 of INIT; the branch is I50. -/
theorem initVerifiesAndEnds : Obligations.InitVerifiesAndEnds := by
  refine fun v => ⟨reads_of_execInit, reads_of_execInit, computes_of_execInit fun s => ?_, computes_of_execInit⟩
  simp only [execInit, finalFails_iff, ite_not]
  rfl

/-! ## What INIT leaves unchanged -/

/-- From `s` to `t` nothing changes beside the registers R187 names, `VAR` changes only at I00, `CSL` only at an edge of
the pulse, and `OK` and `ERR` only at an end. -/
structure InitStep (s t : State) : Prop where
  frame : t = { s with busy := t.busy, ok := t.ok, err := t.err, istate := t.istate, var := t.var, upc := t.upc,
                       link := t.link, csl := t.csl, t := t.t, id0 := t.id0, id1 := t.id1, c1 := t.c1, c2 := t.c2,
                       idx := t.idx, trace := t.trace }
  var : s.upc ≠ .i00 → t.var = s.var
  csl : s.upc ≠ .i01 → s.upc ≠ .i03 → s.upc ≠ .i05 → t.csl = s.csl
  status : t.upc ≠ .idle → t.ok = s.ok ∧ t.err = s.err

/-- A micro-step that keeps `VAR`, `CSL`, `OK` and `ERR`. -/
theorem InitStep.goesOn {s t : State}
    (frame : t = { s with busy := t.busy, upc := t.upc, link := t.link, t := t.t, id0 := t.id0, id1 := t.id1,
                          c1 := t.c1, c2 := t.c2, idx := t.idx, trace := t.trace } := by rfl) : InitStep s t := by
  rw [frame]
  exact ⟨rfl, fun _ => rfl, fun _ _ _ => rfl, fun _ => ⟨rfl, rfl⟩⟩

theorem initFailed_initStep (code : ErrCode) (s : State) : InitStep s (s.initFailed code) :=
  ⟨rfl, fun _ => rfl, fun _ _ _ => rfl, fun hne => absurd rfl hne⟩

theorem wr_initStep (reg val : Byte) (l : Label) (s : State) : Ensures (InitStep s) (wr reg val l s) :=
  (ensures_wr ..).mpr ⟨fun _ => .goesOn, fun _ => .goesOn⟩

theorem rd_initStep {store : Byte → State → State} {s : State} {reg : Byte} {l : Label}
    (h : InitStep s { store s.rx s with link := .idle, upc := l } := by exact .goesOn) :
    Ensures (InitStep s) (rd reg store l s) :=
  (ensures_rd ..).mpr ⟨fun _ => .goesOn, fun _ => h⟩

theorem pulse_initStep (v : Level) (l : Label) {s : State} (hu : s.upc = .i01 ∨ s.upc = .i03 ∨ s.upc = .i05) :
    Ensures (InitStep s) (pulse v l s) :=
  ⟨rfl, fun _ => rfl, fun h1 h3 h5 => by simp [h1, h3, h5] at hu, fun _ => ⟨rfl, rfl⟩⟩

theorem bulkTest_initStep (s : State) : Ensures (InitStep s) (bulkTest s) := by
  unfold bulkTest
  split
  · exact .goesOn
  · exact ensures_fault ..

theorem bulkApply_initStep (s : State) : Ensures (InitStep s) (bulkApply s) := by
  unfold bulkApply
  split
  · exact wr_initStep ..
  · exact .goesOn
  · exact ensures_fault ..

theorem execInit_initStep (v : Byte) (s : State) : Ensures (InitStep s) (execInit v s) := by
  unfold execInit
  split
  · exact .goesOn
  -- I00 writes `VAR`
  next hu => exact ⟨rfl, fun hne => absurd hu hne, fun _ _ _ => rfl, fun _ => ⟨rfl, rfl⟩⟩
  -- steps 1 and 2: the pulse and the power-on command
  next hu => exact pulse_initStep _ _ (.inl hu)
  · exact .goesOn
  next hu => exact pulse_initStep _ _ (.inr (.inl hu))
  · exact .goesOn
  next hu => exact pulse_initStep _ _ (.inr (.inr hu))
  · exact .goesOn
  · exact wr_initStep ..
  · exact .goesOn
  -- steps 3 and 4: the probe and the priming reads
  iterate 2 next => exact rd_initStep
  next =>
    split
    · exact initFailed_initStep ..
    · exact .goesOn
  iterate 5 next => exact rd_initStep
  · exact .goesOn
  -- step 5: tuning and the calibration block
  iterate 5 next => exact wr_initStep ..
  · exact rd_initStep
  iterate 6 next => exact wr_initStep ..
  · exact rd_initStep
  · exact .goesOn
  iterate 2 next => exact rd_initStep
  iterate 3 next => exact .goesOn
  iterate 6 next => exact wr_initStep ..
  -- step 6: the bulk load
  next =>
    split
    · exact initFailed_initStep ..
    · exact .goesOn
  · exact .goesOn
  · exact bulkTest_initStep s
  · exact bulkApply_initStep s
  · exact .goesOn
  -- step 7: the final verification and the end
  iterate 2 next => exact rd_initStep
  next =>
    split
    · exact initFailed_initStep ..
    · exact .goesOn
  · exact ⟨rfl, fun _ => rfl, fun _ _ _ => rfl, fun hne => absurd rfl hne⟩
  · exact ensures_fault ..

/-- Settles O45, over what each micro-step of INIT may change. -/
theorem initFrame : Obligations.InitFrame := by
  intro v s t h
  obtain ⟨hframe, hvar, hcsl, hstatus⟩ := ensures_iff.mp (execInit_initStep v s) t h
  exact ⟨hframe, hvar, hcsl, hstatus, fun j => by rw [hframe]⟩

end Sys2Proof.Machine
end

section
/-! PROOFS. Whole runs of INIT from an idle engine (42_init.md R170 to R188): one that fails its identity probe, and
that every run ends. -/

namespace Sys2Proof.Machine

/-! ## The replies to come -/

@[simp] theorem replyAt_answered (m k : Nat) (s : State) : (s.answered m).replyAt k = s.replyAt (m + k) := by
  simp [State.answered, State.replyAt, Nat.add_assoc]

/-! ## One micro-step of a running command -/

section rules

variable {s : State} {i : Instr} {l next : Label} (h : s.Performs i l)
include h

/-- A step that leaves the command, `rst` and the link as they are goes on at its label. -/
theorem State.Performs.goesOn {t : State} (hsame : SameCommand s t) (hlink : t.link = s.link) :
    t.Performs i t.upc := by
  obtain ⟨hbusy, hrst, hlatched⟩ := hsame
  exact ⟨hbusy.trans h.busy, rfl, hlink.trans h.linkIdle, hrst.trans h.rstQuiet,
    (congrArg decodeCommand hlatched).trans h.decodes⟩

theorem State.Performs.run_wait {us : Nat} (hw : Waits i l us next) :
    run 1 s = .next ((s.emit (.dly us)).goto next) ∧ ((s.emit (.dly us)).goto next).Performs i next :=
  ⟨h.run_computes hw, h.goesOn (t := (s.emit (.dly us)).goto next) ⟨rfl, rfl, rfl⟩ rfl⟩

/-- A `WR` whose operands depend on the state: `State.Performs.run_writes` at one state. -/
theorem State.Performs.run_writesFrom {reg val : Byte} (hstart : WritesFrom i reg val next s)
    (hend : WritesFrom i reg val next (s.wrote reg val)) :
    run 12 s = .next ((s.wrote reg val).proceed next) ∧ ((s.wrote reg val).proceed next).Performs i next := by
  refine ⟨?_, h.proceed (t := s.wrote reg val) ⟨rfl, rfl, rfl⟩ next⟩
  obtain ⟨hb, -, hl, hr, hd⟩ := h
  have hsend : step s = .next (s.sending (writeFrame reg val)) :=
    (step_of_command hr hb (.inl hl) hd).trans (hstart.1 hl)
  have hproceed : step (s.wrote reg val) = .next ((s.wrote reg val).proceed next) :=
    (step_of_command (s := s.wrote reg val) hr hb (.inr rfl) hd).trans (hend.2 rfl)
  rw [run_add 11 (run_one hsend), run_add 1 (run_sending_writeFrame hb hr reg val), run_one hproceed]

theorem State.Performs.run_pulse {v : Level}
    (hp : Computes i l (fun u => { u with csl := v, trace := csEvent v :: u.trace, upc := next })) :
    run 1 s = .next ((s.driveCs v).goto next) ∧ ((s.driveCs v).goto next).Performs i next :=
  ⟨h.run_computes hp, h.goesOn (t := (s.driveCs v).goto next) ⟨rfl, rfl, rfl⟩ rfl⟩

end rules

/-! ## Up to the identity probe -/

/-- I00 and the pulse: INIT under way, the line deasserted and asserted again (R171, R172). -/
def State.pulsed (v : Byte) (s : State) : State :=
  { s with var := v, istate := .running, csl := .asserted, upc := .i07,
           trace := [.dly 1000, .csa, .dly 1000, .csd, .dly 1000, .csa] ++ s.trace }

theorem State.Performs.run_pulsed {s : State} {v : Byte} (h : s.Performs (.init v) .i00) :
    run 7 s = .next (s.pulsed v) ∧ (s.pulsed v).Performs (.init v) .i07 := by
  obtain ⟨-, h00, h01, h02, h03, h04, h05, h06, -, -⟩ := initResetsTheSensor v
  have hp01 : State.Performs { s with var := v, istate := .running, upc := .i01 } (.init v) .i01 :=
    h.goesOn (t := { s with var := v, istate := .running, upc := .i01 }) ⟨rfl, rfl, rfl⟩ rfl
  obtain ⟨r01, hp02⟩ := hp01.run_pulse h01
  obtain ⟨r02, hp03⟩ := hp02.run_wait h02
  obtain ⟨r03, hp04⟩ := hp03.run_pulse h03
  obtain ⟨r04, hp05⟩ := hp04.run_wait h04
  obtain ⟨r05, hp06⟩ := hp05.run_pulse h05
  obtain ⟨r06, -⟩ := hp06.run_wait h06
  refine ⟨?_, h.goesOn (t := s.pulsed v) ⟨rfl, rfl, rfl⟩ rfl⟩
  rw [run_add 6 (h.run_computes h00), run_add 5 r01, run_add 4 r02, run_add 3 r03, run_add 2 r04, run_add 1 r05, r06]
  simp only [State.goto, State.emit, State.driveCs, State.pulsed, csEvent]
  rfl

theorem decodeCommand_of_init {w : Cmd} (hop : cmdOp w = 0x03#8) : decodeCommand w = .ok (.init (cmdVal w)) := by
  simp [decodeCommand, hop]

/-- `s` with the word `w` accepted, the sensor reset and powered on, and INIT at I09 (R172, R173). -/
def State.poweredOn (w : Cmd) (s : State) : State :=
  { s.answered 2 with
    op := cmdOp w, argReg := cmdReg w, argVal := cmdVal w, cmdIn := s.cmdIn.tail, busy := true, upc := .i09,
    link := .idle, var := cmdVal w, istate := .running, csl := .deasserted, session := false,
    trace := ([Event.csa, .dly 1000, .csd, .dly 1000, .csa, .dly 1000]
      ++ txwEvents 0xBA#8 0x5A#8 (s.replyAt 0) (s.replyAt 1) ++ [Event.dly 5000]).reverse ++ s.trace }

/-- An accepted INIT reaches its identity probe. -/
theorem State.Offers.run_powerOn {s : State} {w : Cmd} (h : s.Offers w) (hop : cmdOp w = 0x03#8) :
    run 21 s = .next (s.poweredOn w) ∧ (s.poweredOn w).Performs (.init (cmdVal w)) .i09 := by
  obtain ⟨-, -, -, -, -, -, -, -, h07, h08⟩ := initResetsTheSensor (cmdVal w)
  obtain ⟨haccept, hp00⟩ := h.run_accept (decodeCommand_of_init hop)
  obtain ⟨hpulse, hp07⟩ := hp00.run_pulsed
  obtain ⟨hwrite, hp08⟩ := hp07.run_writes h07
  obtain ⟨hwait, hp09⟩ := hp08.run_wait h08
  refine ⟨?_, hp09⟩
  rw [run_add 20 haccept, run_add 13 hpulse, run_add 1 hwrite, hwait]
  rfl

/-- The two reads of the identity probe (R174). -/
def State.probed (s : State) : State :=
  { s.answered 4 with
    csl := .deasserted, session := false, link := .idle, upc := .i11, id0 := s.replyAt 1, id1 := s.replyAt 3,
    rx := s.replyAt 3,
    trace := (txrEvents 0x00#8 (s.replyAt 0) (s.replyAt 1) ++ txrEvents 0x5F#8 (s.replyAt 2) (s.replyAt 3)).reverse
      ++ s.trace }

theorem State.Performs.run_probed {s : State} {v : Byte} (h : s.Performs (.init v) .i09) :
    run 22 s = .next s.probed ∧ s.probed.Performs (.init v) .i11 := by
  obtain ⟨h09, h10, -⟩ := initProbesIdentityAndPrimes v
  obtain ⟨hread0, hp10⟩ := h.run_reads (store := State.setId0) h09 fun _ _ => ⟨rfl, rfl, rfl⟩
  obtain ⟨hread1, -⟩ := hp10.run_reads (store := State.setId1) h10 fun _ _ => ⟨rfl, rfl, rfl⟩
  have hrun : run 22 s = .next s.probed := by
    rw [run_add 11 hread0, hread1]
    simp [State.probed, State.proceed, State.replied, State.answered, State.replyAt, List.drop_drop, Nat.add_assoc]
  exact ⟨hrun, h.busy, rfl, rfl, h.rstQuiet, h.decodes⟩

/-- Settles O27: up to I09, the two reads, and I11 with both replies wrong. -/
theorem initFailsAtTheProbe : Obligations.InitFailsAtTheProbe := by
  intro s w h hop hid0 hid1
  obtain ⟨-, -, h11, -⟩ := initProbesIdentityAndPrimes (cmdVal w)
  obtain ⟨hstart, hp09⟩ := h.run_powerOn hop
  obtain ⟨hprobe, hp11⟩ := hp09.run_probed
  have hreply (k : Nat) : (s.poweredOn w).replyAt k = s.replyAt (2 + k) := replyAt_answered 2 k s
  have hid : (s.poweredOn w).probed.id0 ≠ 0x49#8 ∧ (s.poweredOn w).probed.id1 ≠ 0xB8#8 :=
    ⟨fun heq => hid0 ((hreply 1).symm.trans heq), fun heq => hid1 ((hreply 3).symm.trans heq)⟩
  rw [run_add 23 hstart, run_add 1 hprobe, hp11.run_computes h11, if_pos hid]
  conv_rhs => rw [← h.idled]
  simp [State.probed, State.poweredOn, State.answered, State.replyAt, List.drop_drop, Nat.add_assoc, afterRaise]

/-! ## Every run ends -/

/-- The result registers and the frame buffer, which INIT does not write (R187). -/
def State.results (s : State) : Byte × BitVec 16 × BitVec 16 × BitVec 11 × List Host.Cell :=
  (s.rdata, s.dx, s.dy, s.pixcnt, s.fb)

/-- INIT, begun in the state `s₀`, has ended in `t` (R187, R271, R272). -/
structure InitOver (s₀ t : State) : Prop where
  busy : t.busy = false
  upc : t.upc = .idle
  link : t.link = .idle
  csl : t.csl = .deasserted
  session : t.session = false
  results : t.results = s₀.results
  verdict : (t.istate = .ready ∧ t.ok = true ∧ t.err = .none) ∨
    (t.istate = .failed ∧ t.ok = false ∧ (t.err = .identityMismatch ∨ t.err = .unsupportedVariant))

/-- The run from `s` ends the INIT begun in `s₀`. -/
def InitEnds (s₀ s : State) : Prop := ∃ n t, run n s = .next t ∧ InitOver s₀ t

theorem InitEnds.of_run {k : Nat} {s₀ s u : State} (hu : InitEnds s₀ u) (h : run k s = .next u) : InitEnds s₀ s := by
  obtain ⟨n, t, hn, ht⟩ := hu
  exact ⟨k + n, t, (run_add n h).trans hn, ht⟩

/-- The INIT begun in `s₀` stands at its label `l`, past the pulse and between two transactions. -/
structure InitAt (v : Byte) (s₀ : State) (l : Label) (s : State) : Prop where
  performs : s.Performs (.init v) l
  csl : s.csl = .deasserted
  session : s.session = false
  results : s.results = s₀.results

/-- From `s` to `t` INIT goes on, with the lines and the results as they are. -/
def StaysInInit (s t : State) : Prop :=
  SameCommand s t ∧ t.csl = s.csl ∧ t.session = s.session ∧ t.results = s.results

section rules

variable {v : Byte} {s₀ s : State} {l : Label} (h : InitAt v s₀ l s)
include h

theorem InitAt.goesOn {t : State} (hstays : StaysInInit s t) (hlink : t.link = s.link) : InitAt v s₀ t.upc t := by
  obtain ⟨hsame, hcsl, hsession, hresults⟩ := hstays
  exact ⟨h.performs.goesOn hsame hlink, hcsl.trans h.csl, hsession.trans h.session, hresults.trans h.results⟩

theorem InitAt.run_write {reg val : Byte} {next : Label} (hstart : WritesFrom (.init v) reg val next s)
    (hend : WritesFrom (.init v) reg val next (s.wrote reg val)) :
    run 12 s = .next ((s.wrote reg val).proceed next) ∧ InitAt v s₀ next ((s.wrote reg val).proceed next) := by
  obtain ⟨hrun, hp⟩ := h.performs.run_writesFrom hstart hend
  exact ⟨hrun, hp, rfl, rfl, h.results⟩

theorem InitAt.goTo (next : Label) : InitAt v s₀ next (s.goto next) :=
  h.goesOn (t := s.goto next) ⟨⟨rfl, rfl, rfl⟩, rfl, rfl, rfl⟩ rfl

/-- A micro-step that is no transaction takes one step. -/
theorem InitAt.run_step {t : State} (hexec : exec (.init v) s = .next t) : run 1 s = .next t := by
  obtain ⟨hb, -, hl, hr, hd⟩ := h.performs
  exact run_one ((step_of_command hr hb (.inl hl) hd).trans hexec)

theorem InitAt.ends_of_step {t : State} (hexec : exec (.init v) s = .next t) (ht : InitEnds s₀ t) : InitEnds s₀ s :=
  ht.of_run (h.run_step hexec)

/-- INIT's Ready end. -/
theorem InitAt.succeeds : InitEnds s₀ { afterDone s with istate := .ready } :=
  ⟨0, _, rfl, rfl, rfl, h.performs.linkIdle, h.csl, h.session, h.results, .inl ⟨rfl, rfl, rfl⟩⟩

/-- INIT's Failed end. -/
theorem InitAt.fails {code : ErrCode} (hcode : code = .identityMismatch ∨ code = .unsupportedVariant) :
    InitEnds s₀ { afterRaise code s with istate := .failed } :=
  ⟨0, _, rfl, rfl, rfl, h.performs.linkIdle, h.csl, h.session, h.results, .inr ⟨rfl, rfl, hcode⟩⟩

end rules

/-- From the label `l` every run of the INIT begun in `s₀` ends. -/
def InitEndsFrom (v : Byte) (s₀ : State) (l : Label) : Prop := ∀ s, InitAt v s₀ l s → InitEnds s₀ s

section rules

variable {v : Byte} {s₀ : State} {l next : Label}

theorem InitEndsFrom.compute {f : State → State} (hf : Computes (.init v) l f)
    (hends : ∀ s, InitAt v s₀ l s → InitEnds s₀ (f s)) : InitEndsFrom v s₀ l :=
  fun s h => h.ends_of_step (hf s h.performs.atLabel) (hends s h)

/-- A micro-step that goes on to one label. -/
theorem InitEndsFrom.goTo {f : State → State} (hf : Computes (.init v) l f) (hnext : InitEndsFrom v s₀ next)
    (hupc : ∀ s, (f s).upc = next := by exact fun _ => rfl)
    (hlink : ∀ s, (f s).link = s.link := by exact fun _ => rfl)
    (hstays : ∀ s, StaysInInit s (f s) := by exact fun _ => ⟨⟨rfl, rfl, rfl⟩, rfl, rfl, rfl⟩) :
    InitEndsFrom v s₀ l :=
  .compute hf fun s h => hnext (f s) (hupc s ▸ h.goesOn (hstays s) (hlink s))

/-- A `WR` whose value depends on registers that its transaction leaves as they are. -/
theorem InitEndsFrom.writeOf {reg : Byte} {val : State → Byte}
    (hw : ∀ s, s.upc = l → WritesFrom (.init v) reg (val s) next s) (hnext : InitEndsFrom v s₀ next)
    (hval : ∀ s d, val (s.wrote reg d) = val s := by exact fun _ _ => rfl) : InitEndsFrom v s₀ l := by
  intro s h
  have hend := hw (s.wrote reg (val s)) h.performs.atLabel
  rw [hval] at hend
  obtain ⟨hrun, hat⟩ := h.run_write (hw s h.performs.atLabel) hend
  exact (hnext _ hat).of_run hrun

theorem InitEndsFrom.write {reg val : Byte} (hw : Writes (.init v) l reg val next) (hnext : InitEndsFrom v s₀ next) :
    InitEndsFrom v s₀ l :=
  .writeOf (val := fun _ => val) hw hnext

theorem InitEndsFrom.read {reg : Byte} {store : Byte → State → State} (hr : Reads (.init v) l reg store next)
    (hnext : InitEndsFrom v s₀ next)
    (hstore : ∀ r s, StaysInInit s (store r s) := by exact fun _ _ => ⟨⟨rfl, rfl, rfl⟩, rfl, rfl, rfl⟩) :
    InitEndsFrom v s₀ l := by
  intro s h
  obtain ⟨-, hcsl, hsession, hresults⟩ := hstore (s.replyAt 1) (s.replied reg)
  obtain ⟨hrun, hp⟩ := h.performs.run_reads hr fun r u => (hstore r u).1
  exact (hnext _ ⟨hp, hcsl, hsession, hresults.trans h.results⟩).of_run hrun

end rules

/-! ### Backwards along the list of R171 -/

section labels

variable {v : Byte} {s₀ : State}

/-- Step 7. -/
theorem initEndsFrom_i48 : InitEndsFrom v s₀ .i48 := by
  obtain ⟨h48, h49, h50, h51⟩ := initVerifiesAndEnds v
  have ready : InitEndsFrom v s₀ .i51 := .compute h51 fun s h => h.succeeds
  refine .read h48 (.read h49 (.compute h50 fun s h => ?_))
  split
  · exact ready _ (h.goTo .i51)
  · exact h.fails (.inl rfl)

/-- The list being applied and the place in it are in `t` as they are in `s`. -/
def SameItem (s t : State) : Prop := t.cfg = s.cfg ∧ t.var = s.var ∧ t.idx = s.idx

/-- I46 applies one item, a write or the pause, and goes on to I47. -/
theorem InitAt.run_item {s : State} {list : List SeqItem} (h : InitAt v s₀ .i46 s)
    (hlist : bulkItems s.cfg s.var = some list) (hidx : s.idx < list.length) :
    ∃ k t, run k s = .next t ∧ InitAt v s₀ .i47 t ∧ SameItem s t := by
  have hu := h.performs.atLabel
  have hitem := List.getElem?_eq_getElem hidx
  cases hi : list[s.idx] with
  | write w =>
    rw [hi] at hitem
    obtain ⟨hrun, hat⟩ := h.run_write (writesFrom_i46 v hu hlist hitem)
      (writesFrom_i46 v (s := s.wrote (regByte w.reg) w.val) hu hlist hitem)
    exact ⟨12, _, hrun, hat, rfl, rfl, rfl⟩
  | pause =>
    rw [hi] at hitem
    obtain ⟨-, -, hload, -⟩ := initLoadsTheVariantList v s list
    obtain ⟨-, -, hpause⟩ := hload (bulkItems_eq_some.mp hlist)
    have hat : InitAt v s₀ .i47 ((s.emit (.dly 100000)).goto .i47) :=
      h.goesOn (t := (s.emit (.dly 100000)).goto .i47) ⟨⟨rfl, rfl, rfl⟩, rfl, rfl, rfl⟩ rfl
    exact ⟨1, _, h.run_step (hpause hu hitem), hat, rfl, rfl, rfl⟩

/-- The loop of step 6, with `m` items still to apply. -/
theorem initEnds_of_loop {list : List SeqItem} {m : Nat} {s : State} (h : InitAt v s₀ .i45 s)
    (hlist : bulkItems s.cfg s.var = some list) (hm : s.idx + m = list.length) : InitEnds s₀ s := by
  induction m generalizing s with
  | zero =>
    have hexec : exec (.init v) s = .next (s.goto .i48) := by
      rw [exec_i45 v h.performs.atLabel hlist, if_pos (show s.idx = list.length from hm)]
    exact h.ends_of_step hexec (initEndsFrom_i48 _ (h.goTo .i48))
  | succ m ih =>
    have hidx : s.idx < list.length := by omega
    have hexec : exec (.init v) s = .next (s.goto .i46) := by
      rw [exec_i45 v h.performs.atLabel hlist, if_neg hidx.ne]
    obtain ⟨k, u, hitem, h47, hcfg, hvar, hsame⟩ := (h.goTo .i46).run_item hlist hidx
    obtain ⟨-, -, -, hincr⟩ := initLoadsTheVariantList v u list
    have h45 : InitAt v s₀ .i45 { u with idx := u.idx + 1, upc := .i45 } :=
      h47.goesOn (t := { u with idx := u.idx + 1, upc := .i45 }) ⟨⟨rfl, rfl, rfl⟩, rfl, rfl, rfl⟩ rfl
    have hlist' : bulkItems u.cfg u.var = some list := by rw [hcfg, hvar]; exact hlist
    have hm' : u.idx + 1 + m = list.length := by rw [hsame, State.goto_idx]; omega
    exact h.ends_of_step hexec ((h47.ends_of_step (hincr h47.performs.atLabel) (ih h45 hlist' hm')).of_run hitem)

/-- Step 6. -/
theorem initEndsFrom_i43 : InitEndsFrom v s₀ .i43 := by
  intro s h
  obtain ⟨hbranch, -⟩ := initLoadsTheVariantList v s []
  refine h.ends_of_step (hbranch h.performs.atLabel) ?_
  split
  next hsel =>
    obtain ⟨list, hlist⟩ : ∃ list, bulkItems s.cfg s.var = some list :=
      hsel.elim (fun hA => ⟨_, bulkItems_eq_some.mpr (.inl ⟨hA, rfl⟩)⟩)
        fun hB => ⟨_, bulkItems_eq_some.mpr (.inr ⟨hB, rfl⟩)⟩
    obtain ⟨-, hzero, -⟩ := initLoadsTheVariantList v (s.goto .i44) []
    have h45 : InitAt v s₀ .i45 { s with idx := 0, upc := .i45 } :=
      h.goesOn (t := { s with idx := 0, upc := .i45 }) ⟨⟨rfl, rfl, rfl⟩, rfl, rfl, rfl⟩ rfl
    exact (h.goTo .i44).ends_of_step (hzero rfl) (initEnds_of_loop h45 hlist (Nat.zero_add _))
  · exact h.fails (.inr rfl)

/-- The calibration block. -/
theorem initEndsFrom_i32 : InitEndsFrom v s₀ .i32 := by
  obtain ⟨h32, h33, h34, h35, h36, h37, h38, h39, h40, -⟩ := initCalibrates v
  have i41 : InitEndsFrom v s₀ .i41 :=
    .writeOf (fun _ => writesFrom_i41 v) (.writeOf (fun _ => writesFrom_i42 v) initEndsFrom_i43)
  have i37 : InitEndsFrom v s₀ .i37 := .write h37 (.write h38 (.write h39 (.write h40 i41)))
  exact .read h32 (.read h33 (.goTo h34 (.goTo h35 (.goTo h36 i37))))

/-- Step 5. -/
theorem initEndsFrom_i18 : InitEndsFrom v s₀ .i18 := by
  obtain ⟨h18, h19, h20, h21, h22, h23, -, -, h25, h26, h27, h28, h29, h30, h31⟩ := initTunes v
  have i31 : InitEndsFrom v s₀ .i31 := .compute h31 fun s h => by
    split
    · exact initEndsFrom_i32 _ (h.goTo .i32)
    · exact initEndsFrom_i43 _ (h.goTo .i43)
  have i25 : InitEndsFrom v s₀ .i25 := .write h25 (.write h26 (.write h27 (.write h28 (.write h29 (.read h30 i31)))))
  have i24 : InitEndsFrom v s₀ .i24 := .writeOf (fun _ => writesFrom_i24 v) i25
  exact .write h18 (.write h19 (.write h20 (.write h21 (.write h22 (.read h23 i24)))))

/-- Steps 3 and 4. -/
theorem initEndsFrom_i09 : InitEndsFrom v s₀ .i09 := by
  obtain ⟨h09, h10, h11, h12, h13, h14, h15, h16, h17⟩ := initProbesIdentityAndPrimes v
  have i12 : InitEndsFrom v s₀ .i12 :=
    .read h12 (.read h13 (.read h14 (.read h15 (.read h16 (.goTo h17 initEndsFrom_i18)))))
  refine .read h09 (.read h10 (.compute h11 fun s h => ?_))
  split
  · exact h.fails (.inl rfl)
  · exact i12 _ (h.goTo .i12)

end labels

/-- Settles O28: the run reaches the identity probe, and from there it ends. -/
theorem initAlwaysEnds : Obligations.InitAlwaysEnds := by
  intro s w h hop
  obtain ⟨hstart, hp09⟩ := h.run_powerOn hop
  obtain ⟨n, t, hrun, hover⟩ := initEndsFrom_i09 (s₀ := s) _ ⟨hp09, rfl, rfl, rfl⟩
  obtain ⟨hbusy, hupc, hlink, hcsl, hsession, hresults, hverdict⟩ := hover
  simp only [State.results, Prod.mk.injEq] at hresults
  obtain ⟨hrdata, hdx, hdy, hpixcnt, hfb⟩ := hresults
  exact ⟨21 + n, t, (run_add n hstart).trans hrun, by omega, hbusy, hupc, hlink, hcsl, hsession, hrdata, hdx, hdy,
    hpixcnt, hfb, hverdict⟩

end Sys2Proof.Machine
end

section
/-! PROOFS. READ_MOTION (43_motion.md R220 to R222): its micro-steps, the whole command from an idle engine, and what it
leaves unchanged. -/

namespace Sys2Proof.Machine

/-! ## Micro-steps -/

theorem reads_of_execReadMotion {l next : Label} {reg : Byte} {store : Byte → State → State}
    (h : ∀ s : State, execReadMotion { s with upc := l } = rd reg store next { s with upc := l } := by
      exact fun _ => rfl) :
    Reads .readMotion l reg store next := by
  refine reads_of_rd ?_
  rintro s rfl
  exact h s

/-- Settles O29: M0 to M4 are one `RD` each, M5 is `done`. -/
theorem readMotionMicroSteps : Obligations.ReadMotionMicroSteps := by
  refine ⟨fun s hu => ?_, reads_of_execReadMotion, reads_of_execReadMotion, reads_of_execReadMotion,
    reads_of_execReadMotion, reads_of_execReadMotion, fun s hu => ?_⟩
  · exact exec_of_idle (by simp) (by simp) hu
  · simp only [exec, execReadMotion, hu]
    rfl

/-! ## The whole command -/

/-- The low byte, then the high byte: of the old value of a delta nothing is left (R113, R220). -/
theorem setHigh_setLow (w : BitVec 16) (lo hi : Byte) : setHigh (setLow w lo) hi = joinBytes hi lo :=
  congrArg (joinBytes hi) (frameSecond_joinBytes (w.extractLsb' 8 8) lo)

/-- `s` with the five reads of READ_MOTION over and the command at M5 (R220). -/
def State.motionRead (s : State) : State :=
  { s.answered 10 with
    csl := .deasserted, session := false, link := .idle, upc := .m5, t := s.replyAt 1, rx := s.replyAt 9,
    dx := joinBytes (s.replyAt 5) (s.replyAt 3), dy := joinBytes (s.replyAt 9) (s.replyAt 7),
    written := { s.written with motion := true },
    trace := (txrEvents 0x02#8 (s.replyAt 0) (s.replyAt 1) ++ txrEvents 0x03#8 (s.replyAt 2) (s.replyAt 3)
      ++ txrEvents 0x04#8 (s.replyAt 4) (s.replyAt 5) ++ txrEvents 0x05#8 (s.replyAt 6) (s.replyAt 7)
      ++ txrEvents 0x06#8 (s.replyAt 8) (s.replyAt 9)).reverse ++ s.trace }

theorem State.Performs.run_motionRead {s : State} (h : s.Performs .readMotion .m0) :
    run 55 s = .next s.motionRead ∧ s.motionRead.Performs .readMotion .m5 := by
  obtain ⟨-, hm0, hm1, hm2, hm3, hm4, -⟩ := readMotionMicroSteps
  obtain ⟨r0, hp1⟩ := h.run_reads (store := State.setT) hm0 fun _ _ => ⟨rfl, rfl, rfl⟩
  obtain ⟨r1, hp2⟩ := hp1.run_reads (store := State.setDxLow) hm1 fun _ _ => ⟨rfl, rfl, rfl⟩
  obtain ⟨r2, hp3⟩ := hp2.run_reads (store := State.setDxHigh) hm2 fun _ _ => ⟨rfl, rfl, rfl⟩
  obtain ⟨r3, hp4⟩ := hp3.run_reads (store := State.setDyLow) hm3 fun _ _ => ⟨rfl, rfl, rfl⟩
  obtain ⟨r4, -⟩ := hp4.run_reads (store := State.setDyHigh) hm4 fun _ _ => ⟨rfl, rfl, rfl⟩
  refine ⟨?_, h.busy, rfl, rfl, h.rstQuiet, h.decodes⟩
  rw [run_add 44 r0, run_add 33 r1, run_add 22 r2, run_add 11 r3, r4]
  simp [State.motionRead, State.proceed, State.replied, State.answered, State.replyAt, List.drop_drop, Nat.add_assoc,
    setHigh_setLow]

/-- Settles O30: acceptance, the five reads, `done`. -/
theorem readMotionRun : Obligations.ReadMotionRun := by
  intro s w h hop
  have hd : decodeCommand w = .ok .readMotion := by simp [decodeCommand, hop]
  obtain ⟨-, -, -, -, -, -, hm5⟩ := readMotionMicroSteps
  obtain ⟨haccept, hp0⟩ := h.run_accept hd
  obtain ⟨hreads, hp5⟩ := hp0.run_motionRead
  rw [run_add 56 haccept, run_add 1 hreads, hp5.run_computes hm5]
  conv_rhs => rw [← h.idled]
  rfl

/-! ## What READ_MOTION leaves unchanged -/

/-- From `s` to `t` nothing changes beside the status flags, `UPC`, the link, `T` and the deltas; `DX` changes only at
M1 and M2, `DY` only at M3 and M4, and `OK` and `ERR` only at an end. -/
structure MotionStep (s t : State) : Prop where
  frame : t = { s with busy := t.busy, ok := t.ok, err := t.err, upc := t.upc, link := t.link, t := t.t, dx := t.dx,
                       dy := t.dy, written := { s.written with motion := t.written.motion } }
  dx : s.upc ≠ .m1 → s.upc ≠ .m2 → t.dx = s.dx
  dy : s.upc ≠ .m3 → s.upc ≠ .m4 → t.dy = s.dy
  status : t.upc ≠ .idle → t.ok = s.ok ∧ t.err = s.err

/-- A micro-step that keeps the deltas, `OK` and `ERR`. -/
theorem MotionStep.goesOn {s t : State}
    (frame : t = { s with busy := t.busy, upc := t.upc, link := t.link, t := t.t } := by rfl) : MotionStep s t := by
  rw [frame]
  exact ⟨rfl, fun _ _ => rfl, fun _ _ => rfl, fun _ => ⟨rfl, rfl⟩⟩

/-- A micro-step that stores a byte of `DX`. -/
theorem MotionStep.writesDx {s t : State} (hu : s.upc = .m1 ∨ s.upc = .m2)
    (frame : t = { s with upc := t.upc, link := t.link, dx := t.dx } := by rfl) : MotionStep s t := by
  rw [frame]
  exact ⟨rfl, fun h1 h2 => (hu.elim h1 h2).elim, fun _ _ => rfl, fun _ => ⟨rfl, rfl⟩⟩

/-- A micro-step that stores a byte of `DY`. -/
theorem MotionStep.writesDy {s t : State} (hu : s.upc = .m3 ∨ s.upc = .m4)
    (frame : t = { s with upc := t.upc, link := t.link, dy := t.dy,
                          written := { s.written with motion := t.written.motion } } := by rfl) :
    MotionStep s t := by
  rw [frame]
  exact ⟨rfl, fun _ _ => rfl, fun h3 h4 => (hu.elim h3 h4).elim, fun _ => ⟨rfl, rfl⟩⟩

/-- An `RD` that starts changes the link alone, so what it stores decides. -/
theorem rd_motionStep {store : Byte → State → State} {s : State} {reg : Byte} {l : Label}
    (h : MotionStep s { store s.rx s with link := .idle, upc := l }) : Ensures (MotionStep s) (rd reg store l s) :=
  (ensures_rd ..).mpr ⟨fun _ => .goesOn, fun _ => h⟩

theorem execReadMotion_motionStep (s : State) : Ensures (MotionStep s) (execReadMotion s) := by
  unfold execReadMotion
  split
  case h_1 => exact .goesOn
  case h_2 => exact rd_motionStep .goesOn
  case h_3 hu => exact rd_motionStep (.writesDx (.inl hu))
  case h_4 hu => exact rd_motionStep (.writesDx (.inr hu))
  case h_5 hu => exact rd_motionStep (.writesDy (.inl hu))
  case h_6 hu => exact rd_motionStep (.writesDy (.inr hu))
  case h_7 => exact ⟨rfl, fun _ _ => rfl, fun _ _ => rfl, fun hne => absurd rfl hne⟩
  case h_8 => exact ensures_fault ..

/-- Settles O46, over what each micro-step of READ_MOTION may change. -/
theorem readMotionFrame : Obligations.ReadMotionFrame := by
  intro s t h
  obtain ⟨hframe, hdx, hdy, hstatus⟩ := ensures_iff.mp (execReadMotion_motionStep s) t h
  exact ⟨hframe, hdx, hdy, hstatus, fun j => by rw [hframe]⟩

end Sys2Proof.Machine
end

section
/-! PROOFS. The frame commands, label by label (44_frame.md R230 to R241; 20_memory.md R66): the three phases, which
command runs which, and the one micro-step that writes the frame buffer. -/

namespace Sys2Proof.Machine

/-! ## Which command runs which phase -/

/-- No label of a phase is `IDLE`, so that the meaning of a command runs the phase. -/
theorem upc_ne_idle_of_framePhase {s : State} {p : FramePhase} (hphase : framePhase s.upc = p) (hp : p ≠ .outside) :
    s.upc ≠ .idle :=
  fun hu => hp (by rw [← hphase, hu]; rfl)

/-- The enable phase is the same in both commands that have it (R232, R241). -/
theorem exec_of_enable {i : Instr} (hi : i = .frameEnable ∨ i = .frameRead) {s : State}
    (hphase : framePhase s.upc = .enable) : exec i s = enablePhase s := by
  have hne : s.upc ≠ .idle := upc_ne_idle_of_framePhase hphase (by simp)
  obtain rfl | rfl := hi
  · simp only [exec, execFrameEnable, hphase]
  · simp only [exec, execFrameRead, hphase]

/-- The streaming phase is the same in both commands that have it (R236, R241). -/
theorem exec_of_stream {i : Instr} (hi : i = .frameStream ∨ i = .frameRead) {s : State}
    (hphase : framePhase s.upc = .stream) : exec i s = streamPhase s := by
  have hne : s.upc ≠ .idle := upc_ne_idle_of_framePhase hphase (by simp)
  obtain rfl | rfl := hi
  · simp only [exec, execFrameStream, hphase]
  · simp only [exec, execFrameRead, hphase]

/-- The completion phase is the same in both commands that have it (R240, R241). -/
theorem exec_of_completion {i : Instr} (hi : i = .frameStream ∨ i = .frameRead) {s : State}
    (hphase : framePhase s.upc = .completion) : exec i s = completionPhase s := by
  have hne : s.upc ≠ .idle := upc_ne_idle_of_framePhase hphase (by simp)
  obtain rfl | rfl := hi
  · simp only [exec, execFrameStream, hphase]
  · simp only [exec, execFrameRead, hphase]

/-- At the label `l` the instruction does the micro-step `m`. -/
def Does (i : Instr) (l : Label) (m : State → Out) : Prop := ∀ s : State, s.upc = l → exec i s = m s

/-! What a phase does at a label is found by evaluation. -/

theorem does_of_enable {i : Instr} (hi : i = .frameEnable ∨ i = .frameRead) {l : Label} {m : State → Out}
    (hl : framePhase l = .enable := by rfl)
    (hm : ∀ s : State, enablePhase { s with upc := l } = m { s with upc := l } := by exact fun _ => rfl) :
    Does i l m := by
  rintro s rfl
  exact (exec_of_enable hi hl).trans (hm s)

theorem does_of_stream {i : Instr} (hi : i = .frameStream ∨ i = .frameRead) {l : Label} {m : State → Out}
    (hl : framePhase l = .stream := by rfl)
    (hm : ∀ s : State, streamPhase { s with upc := l } = m { s with upc := l } := by exact fun _ => rfl) :
    Does i l m := by
  rintro s rfl
  exact (exec_of_stream hi hl).trans (hm s)

theorem does_of_completion {i : Instr} (hi : i = .frameStream ∨ i = .frameRead) {l : Label} {m : State → Out}
    (hl : framePhase l = .completion := by rfl)
    (hm : ∀ s : State, completionPhase { s with upc := l } = m { s with upc := l } := by exact fun _ => rfl) :
    Does i l m := by
  rintro s rfl
  exact (exec_of_completion hi hl).trans (hm s)

/-! ## The ready gate and the polling loops -/

/-- Without a bound a polling loop goes round again (R277). -/
theorem pollAgain_of_unbounded {s : State} (hlimit : s.cfg.pollLimit = none) (l : Label) :
    s.pollAgain l = s.goto l := by
  simp [State.pollAgain, hlimit, pollExhausted]

/-- The second write of the ready gate is `WR(0x58, 0xFF)`, with the count of polling reads at 0. -/
theorem gateArm_effect (next : Label) (s : State) :
    (s.link = .idle → gateArm next s = .next (State.sending 0xD8FF#16 { s with polls := 0 })) ∧
    (s.link = .ended → gateArm next s = .next { s with polls := 0, link := .idle, upc := next }) := by
  have hframe : writeFrame Config.frameReg 0xFF#8 = 0xD8FF#16 := by decide
  refine ⟨fun hl => ?_, fun hl => ?_⟩
  · simp only [gateArm, wr, hl, hframe]
    rfl
  · simp only [gateArm, wr, hl]

theorem gateTest_of_ready {s : State} (ht : s.t.toNat < 0xC0) (poll exit : Label) :
    gateTest poll exit s = .next (s.goto exit) := by
  simp [gateTest, gateBusy_eq, show ¬0xC0 ≤ s.t.toNat by omega]

theorem gateTest_of_busy {s : State} (ht : 0xC0 ≤ s.t.toNat) (hlimit : s.cfg.pollLimit = none) (poll exit : Label) :
    gateTest poll exit s = .next (s.goto poll) := by
  simp [gateTest, gateBusy_eq, ht, pollAgain_of_unbounded hlimit]

/-! ## The tags of S3 (R238) -/

theorem classify_of_upper {s : State} (ha : s.a.extractLsb' 6 2 = 0b01#2) : classify s = s.goto .s4 := by
  simp [classify, tagCase, tagOf, ha]

theorem classify_of_skip {s : State} (ha : s.a.extractLsb' 6 2 = 0b10#2) : classify s = s.goto .s7 := by
  simp [classify, tagCase, tagOf, ha]

theorem classify_of_again {s : State} (ha : s.a.extractLsb' 6 2 = 0b00#2 ∨ s.a.extractLsb' 6 2 = 0b11#2)
    (hlimit : s.cfg.pollLimit = none) : classify s = s.goto .s2 := by
  obtain ha | ha := ha <;> simp [classify, tagCase, tagOf, ha, pollAgain_of_unbounded hlimit]

/-! ## The phases -/

/-- E2 (R232). -/
theorem writesFrom_e2 {i : Instr} (hi : i = .frameEnable ∨ i = .frameRead) {s : State} {k : Fin 9} (hu : s.upc = .e2)
    (hk : s.idx = k) :
    WritesFrom i (regByte (s.cfg.frameEnableSeq[k]).reg) (s.cfg.frameEnableSeq[k]).val .e3 s := by
  have he2 : Does i .e2 enableWrite := does_of_enable hi
  have hitem : s.cfg.frameEnableSeq[s.idx]? = some s.cfg.frameEnableSeq[k] := by simp [hk]
  exact writesFrom_of_wr (by rw [he2 s hu, enableWrite, hitem])

/-- Settles O32, label by label. -/
theorem enablePhaseMicroSteps : Obligations.EnablePhaseMicroSteps := by
  intro i hi
  have heg1 : Does i .eg1 (gateArm .eg2) := does_of_enable hi
  have heg3 : Does i .eg3 (gateTest .eg2 .e4) := does_of_enable hi
  have he5 : Does i .e5 (fun s => .next (if s.op = 0x05#8 then s.done else s.goto .s0)) := does_of_enable hi
  refine ⟨fun s hu => ?_, does_of_enable hi, does_of_enable hi, fun s k hu hk => ?_, does_of_enable hi,
    writes_of_wr (does_of_enable hi), fun s hu => heg1 s hu ▸ gateArm_effect .eg2 s, reads_of_rd (does_of_enable hi),
    fun s hu ht => (heg3 s hu).trans (gateTest_of_ready ht ..),
    fun s hu ht hlimit => (heg3 s hu).trans (gateTest_of_busy ht hlimit ..), does_of_enable hi,
    fun s hu hop => (he5 s hu).trans (congrArg Host.Outcome.next (if_pos hop)),
    fun s hu hop => (he5 s hu).trans (congrArg Host.Outcome.next (if_neg hop))⟩
  · obtain rfl | rfl := hi <;> exact exec_of_idle (by simp) (by simp) hu
  · have hwrites := writesFrom_e2 hi hu hk
    rw [WritesFrom, writeFrame_regByte] at hwrites
    exact hwrites

/-- S1 counts the iterations (R236). -/
theorem exec_s1 {i : Instr} (hi : i = .frameStream ∨ i = .frameRead) {s : State} (hu : s.upc = .s1) :
    exec i s = .next (if s.iter = 1225#11 then s.goto .s8 else { s with polls := 0, upc := .s2 }) := by
  have hs1 : Does i .s1
      (fun u => .next (if loopDone u.iter then u.goto .s8 else { u with polls := 0, upc := .s2 })) := does_of_stream hi
  simp only [hs1 s hu, loopDone, beq_iff_eq]

/-- S5 stores the pixel of `A` and `B` (R237). -/
theorem exec_s5 {i : Instr} (hi : i = .frameStream ∨ i = .frameRead) {s : State} (hu : s.upc = .s5)
    (hn : s.n.toNat < 1225) :
    exec i s = .next { s with fb := Memory.write s.fb s.n.toNat (pixel s.a s.b),
                              trace := .fbw s.n.toNat (pixel s.a s.b) :: s.trace, upc := .s6 } := by
  have hs5 : Does i .s5 (fun u => storePixel (pixel u.a u.b) .s6 u) := does_of_stream hi
  exact (hs5 s hu).trans (if_pos hn)

/-- Settles O33, label by label. -/
theorem streamPhaseMicroSteps : Obligations.StreamPhaseMicroSteps := by
  intro i hi
  have hs3 : Does i .s3 (fun s => .next (classify s)) := does_of_stream hi
  refine ⟨does_of_stream hi, fun s hu hiter => ?_, fun s hu hiter => ?_, reads_of_rd (does_of_stream hi),
    fun s hu ha => (hs3 s hu).trans (congrArg Host.Outcome.next (classify_of_upper ha)),
    fun s hu ha => (hs3 s hu).trans (congrArg Host.Outcome.next (classify_of_skip ha)),
    fun s hu ha hlimit => (hs3 s hu).trans (congrArg Host.Outcome.next (classify_of_again ha hlimit)),
    reads_of_rd (does_of_stream hi),
    fun s hu hn => exec_s5 hi hu hn, does_of_stream hi, does_of_stream hi, does_of_stream hi⟩
  · rw [exec_s1 hi hu, if_pos hiter]
    rfl
  · rw [exec_s1 hi hu, if_neg hiter]

/-- Settles O34, label by label. -/
theorem completionPhaseMicroSteps : Obligations.CompletionPhaseMicroSteps := by
  refine ⟨fun s hu => exec_of_idle (by simp) (by simp) hu, fun i hi => ?_⟩
  have hcg1 : Does i .cg1 (gateArm .cg2) := does_of_completion hi
  have hcg3 : Does i .cg3 (gateTest .cg2 .c4) := does_of_completion hi
  exact ⟨writes_of_wr (does_of_completion hi), fun s hu => hcg1 s hu ▸ gateArm_effect .cg2 s,
    reads_of_rd (does_of_completion hi), fun s hu ht => (hcg3 s hu).trans (gateTest_of_ready ht ..),
    fun s hu ht hlimit => (hcg3 s hu).trans (gateTest_of_busy ht hlimit ..), does_of_completion hi⟩

/-- Settles O36: S5 is the one write, at element `N`. -/
theorem pixelStoreWritesElementN : Obligations.PixelStoreWritesElementN := by
  intro i s hi hu hn
  exact ⟨_, exec_s5 hi hu hn, Memory.read_write_same .., fun j hj => Memory.read_write_other _ _ _ _ hj, rfl⟩

/-- Settles O37: each phase is one function of the state, whichever command runs it; at E5 it looks at `OP`. -/
theorem frameReadIsEnableThenStream : Obligations.FrameReadIsEnableThenStream := by
  intro s
  obtain ⟨-, -, -, -, -, -, -, -, -, -, -, hends, -⟩ := enablePhaseMicroSteps .frameEnable (.inl rfl)
  obtain ⟨-, -, -, -, -, -, -, -, -, -, -, -, hgoes⟩ := enablePhaseMicroSteps .frameRead (.inr rfl)
  refine ⟨fun hphase => ?_, fun hphase => ?_, fun hu hop => hgoes s hu (by simp [hop]), hends s⟩
  · rw [exec_of_enable (.inr rfl) hphase, exec_of_enable (.inl rfl) hphase]
  · obtain hphase | hphase := hphase
    · rw [exec_of_stream (.inr rfl) hphase, exec_of_stream (.inl rfl) hphase]
    · rw [exec_of_completion (.inr rfl) hphase, exec_of_completion (.inl rfl) hphase]

end Sys2Proof.Machine
end

section
/-! PROOFS. What the frame commands leave unchanged (44_frame.md R233, R237, R240, R241). -/

namespace Sys2Proof.Machine

/-! ## What the ready gate may change -/

/-- From `s` to `t` at most the status flags, `UPC`, the link, `T`, the polling count and the trace change; `OK` and
`ERR` only at an end. -/
structure GateStep (s t : State) : Prop where
  frame : t = { s with busy := t.busy, ok := t.ok, err := t.err, upc := t.upc, link := t.link, t := t.t,
                       polls := t.polls, trace := t.trace }
  status : t.upc ≠ .idle → t.ok = s.ok ∧ t.err = s.err

/-- A micro-step that keeps `OK` and `ERR`. -/
theorem GateStep.goesOn {s t : State}
    (frame : t = { s with busy := t.busy, upc := t.upc, link := t.link, t := t.t, polls := t.polls,
                          trace := t.trace } := by rfl) : GateStep s t := by
  rw [frame]
  exact ⟨rfl, fun _ => ⟨rfl, rfl⟩⟩

theorem done_gateStep (s : State) : GateStep s s.done := ⟨rfl, fun hne => absurd rfl hne⟩

theorem pollAgain_gateStep (l : Label) (s : State) : GateStep s (s.pollAgain l) := by
  obtain ⟨-, h⟩ | ⟨-, h⟩ := pollAgain_cases l s <;> rw [h]
  · exact ⟨rfl, fun hne => absurd rfl hne⟩
  · exact .goesOn

theorem wr_gateStep (reg val : Byte) (l : Label) (s : State) : Ensures (GateStep s) (wr reg val l s) :=
  (ensures_wr ..).mpr ⟨fun _ => .goesOn, fun _ => .goesOn⟩

theorem gateArm_gateStep (l : Label) (s : State) : Ensures (GateStep s) (gateArm l s) :=
  (ensures_wr ..).mpr ⟨fun _ => .goesOn, fun _ => .goesOn⟩

theorem gateRead_gateStep (reg : Byte) (l : Label) (s : State) :
    Ensures (GateStep s) (rd reg State.setTPolled l s) :=
  (ensures_rd ..).mpr ⟨fun _ => .goesOn, fun _ => .goesOn⟩

theorem gateTest_gateStep (poll exit : Label) (s : State) : Ensures (GateStep s) (gateTest poll exit s) := by
  unfold gateTest
  split
  · exact pollAgain_gateStep poll s
  · exact .goesOn

theorem enableWrite_gateStep (s : State) : Ensures (GateStep s) (enableWrite s) := by
  unfold enableWrite
  split
  · exact wr_gateStep ..
  · exact ensures_fault ..

/-- The completion phase is a ready gate and `done` (R240). -/
theorem completionPhase_gateStep (s : State) : Ensures (GateStep s) (completionPhase s) := by
  unfold completionPhase
  split
  case h_1 => exact wr_gateStep ..
  case h_2 => exact gateArm_gateStep ..
  case h_3 => exact gateRead_gateStep ..
  case h_4 => exact gateTest_gateStep ..
  case h_5 => exact done_gateStep s
  case h_6 => exact ensures_fault ..

/-! ## The enable phase -/

/-- From `s` to `t` nothing changes beside what the ready gate may change and `IDX` (R233). -/
def EnableStep (s t : State) : Prop := GateStep { s with idx := t.idx } t

theorem GateStep.enableStep {s t : State} (h : GateStep s t) : EnableStep s t := by
  have hidx : t.idx = s.idx := by rw [h.frame]
  rw [EnableStep, hidx]
  exact h

theorem enablePhase_enableStep (s : State) : Ensures (EnableStep s) (enablePhase s) := by
  have hgate {o : Out} (h : Ensures (GateStep s) o) : Ensures (EnableStep s) o := h.imp fun _ => GateStep.enableStep
  unfold enablePhase
  split
  -- E0 to E3: the nine writes
  · exact GateStep.goesOn
  · exact hgate .goesOn
  · exact hgate (enableWrite_gateStep s)
  · exact GateStep.goesOn
  -- EG0 to EG3: the ready gate
  · exact hgate (wr_gateStep ..)
  · exact hgate (gateArm_gateStep ..)
  · exact hgate (gateRead_gateStep ..)
  · exact hgate (gateTest_gateStep ..)
  -- E4 and E5: the settle wait and the end
  · exact hgate .goesOn
  next =>
    split
    · exact hgate (done_gateStep s)
    · exact hgate .goesOn
  · exact ensures_fault ..

/-! ## The streaming phase -/

/-- From `s` to `t` nothing changes beside what the ready gate may change and the registers of the streaming loop;
`PIXCNT` changes only at S8, and the frame buffer only at S5, there in element `N` (R237, R239, R240). -/
structure StreamStep (s t : State) : Prop where
  frame : t = { s with busy := t.busy, ok := t.ok, err := t.err, upc := t.upc, link := t.link, t := t.t,
                       polls := t.polls, a := t.a, b := t.b, iter := t.iter, n := t.n, pixcnt := t.pixcnt,
                       written := { s.written with pixcnt := t.written.pixcnt }, fb := t.fb, trace := t.trace }
  status : t.upc ≠ .idle → t.ok = s.ok ∧ t.err = s.err
  pixcnt : s.upc ≠ .s8 → t.pixcnt = s.pixcnt
  fb : s.upc ≠ .s5 → t.fb = s.fb
  others : ∀ j, j ≠ s.n.toNat → Memory.read t.fb j = Memory.read s.fb j

/-- A micro-step that keeps `OK`, `ERR`, `PIXCNT` and the frame buffer. -/
theorem StreamStep.goesOn {s t : State}
    (frame : t = { s with busy := t.busy, upc := t.upc, link := t.link, t := t.t, polls := t.polls, a := t.a, b := t.b,
                          iter := t.iter, n := t.n } := by rfl) : StreamStep s t := by
  rw [frame]
  exact ⟨rfl, fun _ => ⟨rfl, rfl⟩, fun _ => rfl, fun _ => rfl, fun _ _ => rfl⟩

theorem GateStep.streamStep {s t : State} (h : GateStep s t) : StreamStep s t := by
  obtain ⟨hframe, hstatus⟩ := h
  have hpixcnt : t.pixcnt = s.pixcnt := by rw [hframe]
  have hfb : t.fb = s.fb := by rw [hframe]
  exact ⟨by rw [hframe], hstatus, fun _ => hpixcnt, fun _ => hfb, fun _ _ => by rw [hfb]⟩

/-- An `RD` that starts changes the link alone, so what it stores decides. -/
theorem rd_streamStep {store : Byte → State → State} {s : State} {reg : Byte} {l : Label}
    (h : StreamStep s { store s.rx s with link := .idle, upc := l } := by exact .goesOn) :
    Ensures (StreamStep s) (rd reg store l s) :=
  (ensures_rd ..).mpr ⟨fun _ => .goesOn, fun _ => h⟩

theorem classify_streamStep (s : State) : StreamStep s (classify s) := by
  unfold classify
  split
  · exact .goesOn
  · exact (pollAgain_gateStep .s2 s).streamStep
  · exact .goesOn

/-- The one write of the frame buffer. -/
theorem storePixel_streamStep {s : State} (hu : s.upc = .s5) (v : Byte) (l : Label) :
    Ensures (StreamStep s) (storePixel v l s) := by
  refine ensures_iff.mpr fun t h => ?_
  obtain ⟨-, rfl⟩ := storePixel_next h
  exact ⟨rfl, fun _ => ⟨rfl, rfl⟩, fun _ => rfl, fun hne => absurd hu hne,
    fun j hj => Memory.read_write_other _ _ _ _ hj⟩

theorem streamPhase_streamStep (s : State) : Ensures (StreamStep s) (streamPhase s) := by
  unfold streamPhase
  split
  case h_1 => exact .goesOn
  case h_2 => split <;> exact .goesOn
  case h_3 => exact rd_streamStep
  case h_4 => exact classify_streamStep s
  case h_5 => exact rd_streamStep
  case h_6 hu => exact storePixel_streamStep hu ..
  case h_7 | h_8 => exact .goesOn
  case h_9 hu => exact ⟨rfl, fun _ => ⟨rfl, rfl⟩, fun hne => absurd hu hne, fun _ => rfl, fun _ _ => rfl⟩
  case h_10 => exact ensures_fault ..

theorem completionPhase_streamStep (s : State) : Ensures (StreamStep s) (completionPhase s) :=
  (completionPhase_gateStep s).imp fun _ => GateStep.streamStep

/-! ## The commands -/

theorem execFrameEnable_enableStep (s : State) : Ensures (EnableStep s) (execFrameEnable s) := by
  unfold execFrameEnable
  split
  · exact GateStep.enableStep .goesOn
  · exact enablePhase_enableStep s
  · exact ensures_fault ..

theorem execFrameStream_streamStep (s : State) : Ensures (StreamStep s) (execFrameStream s) := by
  unfold execFrameStream
  split
  · exact .goesOn
  · exact streamPhase_streamStep s
  · exact completionPhase_streamStep s
  · exact ensures_fault ..

theorem execFrameRead_step (s : State) : Ensures (fun t => EnableStep s t ∨ StreamStep s t) (execFrameRead s) := by
  unfold execFrameRead
  split
  · exact .inl (GateStep.enableStep .goesOn)
  · exact (enablePhase_enableStep s).imp fun _ => .inl
  · exact (streamPhase_streamStep s).imp fun _ => .inr
  · exact (completionPhase_streamStep s).imp fun _ => .inr
  · exact ensures_fault ..

/-- Settles O47, over what each micro-step of the enable phase may change. -/
theorem frameEnableFrame : Obligations.FrameEnableFrame := by
  intro s t h
  obtain ⟨hframe, hstatus⟩ := ensures_iff.mp (execFrameEnable_enableStep s) t h
  exact ⟨hframe, hstatus, fun j => by rw [hframe]⟩

/-- Settles O48, over what each micro-step of the phases may change; only the enable phase writes `IDX`. -/
theorem frameStreamAndReadFrame : Obligations.FrameStreamAndReadFrame := by
  intro i s t hi h
  have hstep : StreamStep s t ∨ (i ≠ .frameStream ∧ EnableStep s t) := by
    obtain rfl | rfl := hi
    · exact .inl (ensures_iff.mp (execFrameStream_streamStep s) t h)
    · exact (ensures_iff.mp (execFrameRead_step s) t h).symm.imp_right fun hen => ⟨by simp, hen⟩
  obtain ⟨hframe, hstatus, hpixcnt, hfb, hothers⟩ | ⟨hne, hframe, hstatus⟩ := hstep
  · have hidx : t.idx = s.idx := by rw [hframe]
    exact ⟨by rw [hframe], hpixcnt, fun _ => hidx, hstatus, fun hu j => by rw [hfb hu], fun _ => hothers⟩
  · have hpixcnt : t.pixcnt = s.pixcnt := by rw [hframe]
    have hfb : t.fb = s.fb := by rw [hframe]
    exact ⟨by rw [hframe], fun _ => hpixcnt, fun heq => absurd heq hne, hstatus, fun _ j => by rw [hfb],
      fun _ j _ => by rw [hfb]⟩

end Sys2Proof.Machine
end

section
/-! PROOFS. The whole streaming phase (44_frame.md R236 to R239): 1225 iterations as the sensor answers them, the pixels
stored in order, and the counts at the end. -/

namespace Sys2Proof.Machine

/-! ## Elements stored in order -/

/-- The bytes `px` written to the elements from `k` up. -/
def Memory.writeFrom : List Host.Cell → Nat → List Byte → List Host.Cell
  | m, _, [] => m
  | m, k, v :: px => Memory.writeFrom (Memory.write m k v) (k + 1) px

theorem Memory.writeFrom_append (m : List Host.Cell) (k : Nat) (px qx : List Byte) :
    Memory.writeFrom m k (px ++ qx) = Memory.writeFrom (Memory.writeFrom m k px) (k + px.length) qx := by
  induction px generalizing m k with
  | nil => rfl
  | cons v px ih =>
    rw [List.cons_append, Memory.writeFrom, Memory.writeFrom, ih, List.length_cons, Nat.add_assoc, Nat.add_comm 1]

/-- An element outside those written reads as before. -/
theorem Memory.read_writeFrom_other (m : List Host.Cell) (k : Nat) (px : List Byte) {j : Nat}
    (hj : j < k ∨ k + px.length ≤ j) : Memory.read (Memory.writeFrom m k px) j = Memory.read m j := by
  induction px generalizing m k with
  | nil => rfl
  | cons v px ih =>
    rw [List.length_cons] at hj
    rw [Memory.writeFrom, ih _ (k + 1) (by omega), Memory.read_write_other _ _ _ _ (by omega)]

/-- The elements written read as the bytes, in order. -/
theorem Memory.read_writeFrom (m : List Host.Cell) (k : Nat) {px : List Byte} {j : Nat} {v : Byte}
    (hv : px[j]? = some v) : Memory.read (Memory.writeFrom m k px) (k + j) = some v := by
  induction px generalizing m k j with
  | nil => simp at hv
  | cons w px ih =>
    cases j with
    | zero =>
      obtain rfl : w = v := by simpa using hv
      rw [Memory.writeFrom, Memory.read_writeFrom_other _ _ _ (.inl (by omega)), Nat.add_zero,
        Memory.read_write_same]
    | succ j =>
      rw [Memory.writeFrom, Nat.add_comm j, ← Nat.add_assoc]
      exact ih _ _ (by simpa using hv)

/-! ## Progress of the loop -/

/-- A run leads from `s` to `t`, in which the streaming loop has made `k` iterations and `r` reads and stored the pixels
`px`, in the elements from `N` up. -/
structure Streams (k r : Nat) (px : List Byte) (s t : State) : Prop where
  reached : ∃ m, run m s = .next t
  iter : t.iter.toNat = s.iter.toNat + k
  n : t.n.toNat = s.n.toNat + px.length
  fb : t.fb = Memory.writeFrom s.fb s.n.toNat px
  cfg : t.cfg = s.cfg
  replies : t.replies = s.replies.drop (2 * r)
  xfers : t.xfers = s.xfers + 2 * r

theorem Streams.trans {k k' r r' : Nat} {px px' : List Byte} {s t u : State} (h : Streams k r px s t)
    (h' : Streams k' r' px' t u) : Streams (k + k') (r + r') (px ++ px') s u where
  reached := by
    obtain ⟨m, hm⟩ := h.reached
    obtain ⟨m', hm'⟩ := h'.reached
    exact ⟨m + m', (run_add m' hm).trans hm'⟩
  iter := by rw [h'.iter, h.iter, Nat.add_assoc]
  n := by rw [h'.n, h.n, List.length_append, Nat.add_assoc]
  fb := by rw [h'.fb, h.fb, h.n, Memory.writeFrom_append]
  cfg := h'.cfg.trans h.cfg
  replies := by rw [h'.replies, h.replies, List.drop_drop, Nat.mul_add]
  xfers := by rw [h'.xfers, h.xfers, Nat.mul_add, Nat.add_assoc]

/-- The reply to come `j` transfers after `r` reads. -/
theorem Streams.replyAt {k r : Nat} {px : List Byte} {s t : State} (h : Streams k r px s t) (j : Nat) :
    t.replyAt j = s.replyAt (2 * r + j) := by
  simp [State.replyAt, h.replies, h.xfers, Nat.add_assoc]

/-- The results of the coming read transactions are `vs`, whatever the replies they discard (R137). -/
def State.WillRead (s : State) (vs : List Byte) : Prop :=
  ∀ (j : Nat) (v : Byte), vs[j]? = some v → s.replyAt (2 * j + 1) = v

theorem State.WillRead.head {s : State} {v : Byte} {vs : List Byte} (h : s.WillRead (v :: vs)) : s.replyAt 1 = v :=
  h 0 v rfl

theorem State.WillRead.left {s : State} {vs ws : List Byte} (h : s.WillRead (vs ++ ws)) : s.WillRead vs := by
  intro j v hv
  have hj : j < vs.length := (List.getElem?_eq_some_iff.mp hv).1
  exact h j v (by rw [List.getElem?_append_left hj, hv])

/-- What is left of the results after the first reads. -/
theorem State.WillRead.after {vs ws : List Byte} {k : Nat} {px : List Byte} {s t : State} (h : s.WillRead (vs ++ ws))
    (hst : Streams k vs.length px s t) : t.WillRead ws := by
  intro j v hv
  have hj : (vs ++ ws)[vs.length + j]? = some v := by
    rw [List.getElem?_append_right (Nat.le_add_right ..), Nat.add_sub_cancel_left, hv]
  rw [hst.replyAt, ← Nat.add_assoc, ← Nat.mul_add]
  exact h _ v hj

/-! ## The micro-steps of an iteration -/

@[simp] theorem State.proceed_a (next : Label) (s : State) : (s.proceed next).a = s.a := rfl
@[simp] theorem State.replied_a (reg : Byte) (s : State) : (s.replied reg).a = s.a := rfl

/-- A micro-step that is no transaction, at one state. -/
theorem State.Performs.run_exec {s t : State} {i : Instr} {l : Label} (h : s.Performs i l)
    (hexec : exec i s = .next t) (hsame : SameCommand s t := by exact ⟨rfl, rfl, rfl⟩)
    (hlink : t.link = s.link := by rfl) : run 1 s = .next t ∧ t.Performs i t.upc :=
  ⟨run_one ((step_of_command h.rstQuiet h.busy (.inl h.linkIdle) h.decodes).trans hexec), h.goesOn hsame hlink⟩

/-- The counters, the frame buffer, the parameters and the sensor's inputs are in `t` as they are in `s`. -/
def SameLoop (s t : State) : Prop :=
  t.iter = s.iter ∧ t.n = s.n ∧ t.fb = s.fb ∧ t.cfg = s.cfg ∧ t.replies = s.replies ∧ t.xfers = s.xfers

/-- A run that leaves the loop as it is. -/
theorem Streams.of_run {m : Nat} {s t : State} (hrun : run m s = .next t)
    (hsame : SameLoop s t := by exact ⟨rfl, rfl, rfl, rfl, rfl, rfl⟩) : Streams 0 0 [] s t := by
  obtain ⟨hiter, hn, hfb, hcfg, hreplies, hxfers⟩ := hsame
  exact ⟨⟨m, hrun⟩, congrArg BitVec.toNat hiter, congrArg BitVec.toNat hn, hfb, hcfg, hreplies, hxfers⟩

theorem Streams.refl (s : State) : Streams 0 0 [] s s := .of_run (m := 0) rfl

/-- An `RD` whose store leaves the loop as it is makes one read (R137, R151). -/
theorem State.Performs.streams_read {s : State} {i : Instr} {l next : Label} {reg : Byte}
    {store : Byte → State → State} (h : s.Performs i l) (hrd : Reads i l reg store next)
    (hstore : ∀ v u, SameCommand u (store v u) := by exact fun _ _ => ⟨rfl, rfl, rfl⟩)
    (hloop : ∀ v u, SameLoop u (store v u) := by exact fun _ _ => ⟨rfl, rfl, rfl, rfl, rfl, rfl⟩) :
    Streams 0 1 [] s ((store (s.replyAt 1) (s.replied reg)).proceed next) ∧
    ((store (s.replyAt 1) (s.replied reg)).proceed next).Performs i next := by
  obtain ⟨hrun, hp⟩ := h.run_reads hrd hstore
  obtain ⟨hiter, hn, hfb, hcfg, hreplies, hxfers⟩ := hloop (s.replyAt 1) (s.replied reg)
  exact ⟨⟨⟨11, hrun⟩, congrArg BitVec.toNat hiter, congrArg BitVec.toNat hn, hfb, hcfg, hreplies, hxfers⟩, hp⟩

section loop

variable {i : Instr} (hi : i = .frameStream ∨ i = .frameRead) {s : State}
include hi

/-- S1 enters an iteration (R236). -/
theorem streams_s1 (h : s.Performs i .s1) (hiter : s.iter.toNat < 1225) :
    ∃ t, Streams 0 0 [] s t ∧ t.Performs i .s2 := by
  obtain ⟨-, -, hs1, -⟩ := streamPhaseMicroSteps i hi
  have hne : s.iter ≠ 1225#11 := fun heq => by simp [heq] at hiter
  obtain ⟨hrun, hp2⟩ := h.run_exec (hs1 s h.atLabel hne)
  exact ⟨_, .of_run hrun, hp2⟩

/-- S2 reads a first byte into `A` (R236). -/
theorem streams_s2 (h : s.Performs i .s2) :
    ∃ t, Streams 0 1 [] s t ∧ t.Performs i .s3 ∧ t.a = s.replyAt 1 := by
  obtain ⟨-, -, -, hs2, -⟩ := streamPhaseMicroSteps i hi
  obtain ⟨hst, hp3⟩ := h.streams_read (store := State.setAPolled) hs2
  exact ⟨_, hst, hp3, rfl⟩

/-- S2 and S3 over the not-ready bytes, read again (R238). -/
theorem streams_again {again : List Byte} (h : s.Performs i .s2) (hlimit : s.cfg.pollLimit = none)
    (hagain : again.all (repolls .s2) = true) (hread : s.WillRead again) :
    ∃ t, Streams 0 again.length [] s t ∧ t.Performs i .s2 := by
  induction again generalizing s with
  | nil => exact ⟨s, .refl s, h⟩
  | cons v again ih =>
    rw [List.all_cons, Bool.and_eq_true] at hagain
    obtain ⟨hv, hagain⟩ := hagain
    obtain ⟨-, -, -, -, -, -, hs3, -⟩ := streamPhaseMicroSteps i hi
    obtain ⟨t, hst, hp3, ha⟩ := streams_s2 hi h
    have htag : t.a.extractLsb' 6 2 = 0b00#2 ∨ t.a.extractLsb' 6 2 = 0b11#2 := by
      rw [ha, hread.head]
      simpa [repolls] using hv
    have hlimit' : t.cfg.pollLimit = none := hst.cfg ▸ hlimit
    obtain ⟨hrun, hp2⟩ := hp3.run_exec (hs3 t hp3.atLabel htag hlimit')
    have hround := hst.trans (.of_run hrun)
    obtain ⟨u, hrest, hu2⟩ := ih hp2 hlimit' hagain (State.WillRead.after (vs := [v]) hread hround)
    exact ⟨u, by simpa [Nat.add_comm] using hround.trans hrest, hu2⟩

/-- S2 to S7 over a byte tagged `0b10`: no second read and no pixel (R238). -/
theorem streams_skip {a : Byte} (h : s.Performs i .s2) (ha : a.extractLsb' 6 2 = 0b10#2) (hread : s.WillRead [a]) :
    ∃ t, Streams 0 1 [] s t ∧ t.Performs i .s7 := by
  obtain ⟨-, -, -, -, -, hs3, -⟩ := streamPhaseMicroSteps i hi
  obtain ⟨t, hst, hp3, hta⟩ := streams_s2 hi h
  obtain ⟨hrun, hp7⟩ := hp3.run_exec (hs3 t hp3.atLabel (by rw [hta, hread.head, ha]))
  exact ⟨_, hst.trans (.of_run hrun), hp7⟩

/-- S4 reads the second byte into `B` (R237). -/
theorem streams_s4 (h : s.Performs i .s4) :
    ∃ t, Streams 0 1 [] s t ∧ t.Performs i .s5 ∧ t.a = s.a ∧ t.b = s.replyAt 1 := by
  obtain ⟨-, -, -, -, -, -, -, hs4, -⟩ := streamPhaseMicroSteps i hi
  obtain ⟨hst, hp5⟩ := h.streams_read (store := State.setB) hs4
  exact ⟨_, hst, hp5, by simp, rfl⟩

/-- S5 and S6 store the pixel in element `N` and count it (R237). -/
theorem streams_s5 (h : s.Performs i .s5) (hn : s.n.toNat < 1225) :
    ∃ t, Streams 0 0 [pixel s.a s.b] s t ∧ t.Performs i .s7 := by
  obtain ⟨-, -, -, -, -, -, -, -, hs5, hs6, -⟩ := streamPhaseMicroSteps i hi
  obtain ⟨hstore, hp6⟩ := h.run_exec (hs5 s h.atLabel hn)
  obtain ⟨hcount, hp7⟩ := hp6.run_exec (hs6 _ rfl)
  exact ⟨_, ⟨⟨2, (run_add 1 hstore).trans hcount⟩, rfl, counter_succ hn, rfl, rfl, rfl, rfl⟩, hp7⟩

/-- S2 to S7 over an upper byte and the byte after it: one pixel (R237, R238). -/
theorem streams_pixel {a b : Byte} (h : s.Performs i .s2) (hn : s.n.toNat < 1225)
    (ha : a.extractLsb' 6 2 = 0b01#2) (hread : s.WillRead [a, b]) :
    ∃ t, Streams 0 2 [pixel a b] s t ∧ t.Performs i .s7 := by
  obtain ⟨-, -, -, -, hs3, -⟩ := streamPhaseMicroSteps i hi
  obtain ⟨t, hst, hp3, hta⟩ := streams_s2 hi h
  rw [hread.head] at hta
  obtain ⟨hrun, hp4⟩ := hp3.run_exec (hs3 t hp3.atLabel (by rw [hta, ha]))
  have hfirst := hst.trans (.of_run hrun)
  obtain ⟨u, htu, hp5, hua, hub⟩ := streams_s4 hi hp4
  rw [(State.WillRead.after (vs := [a]) hread hfirst).head] at hub
  have hboth := hfirst.trans htu
  obtain ⟨v, huv, hp7⟩ := streams_s5 hi hp5 (by rw [hboth.n]; exact hn)
  rw [hua.trans hta, hub] at huv
  exact ⟨v, hboth.trans huv, hp7⟩

/-- S7 counts the iteration (R236). -/
theorem streams_s7 (h : s.Performs i .s7) (hiter : s.iter.toNat < 1225) :
    ∃ t, Streams 1 0 [] s t ∧ t.Performs i .s1 := by
  obtain ⟨-, -, -, -, -, -, -, -, -, -, hs7, -⟩ := streamPhaseMicroSteps i hi
  obtain ⟨hrun, hp1⟩ := h.run_exec (hs7 s h.atLabel)
  exact ⟨_, ⟨⟨1, hrun⟩, counter_succ hiter, rfl, rfl, rfl, rfl, rfl⟩, hp1⟩

/-! ## The iterations -/

/-- S2 to S7 over the bytes of an iteration. -/
theorem streams_bytes {it : Iteration} (h : s.Performs i .s2) (hlimit : s.cfg.pollLimit = none)
    (hn : s.n.toNat < 1225) (htag : it.tagged = true) (hread : s.WillRead it.results) :
    ∃ t, Streams 0 it.results.length it.pixel.toList s t ∧ t.Performs i .s7 := by
  cases it with
  | shown again a b =>
    obtain ⟨hagain, ha⟩ : again.all (repolls .s2) = true ∧ a.extractLsb' 6 2 = 0b01#2 := by
      simpa only [Iteration.tagged, Bool.and_eq_true, beq_iff_eq] using htag
    obtain ⟨t, hst, hp2⟩ := streams_again hi h hlimit hagain hread.left
    obtain ⟨u, htu, hp7⟩ := streams_pixel hi hp2 (hst.n ▸ hn) ha (hread.after hst)
    exact ⟨u, by simpa [Iteration.results, Iteration.pixel] using hst.trans htu, hp7⟩
  | skipped again a =>
    obtain ⟨hagain, ha⟩ : again.all (repolls .s2) = true ∧ a.extractLsb' 6 2 = 0b10#2 := by
      simpa only [Iteration.tagged, Bool.and_eq_true, beq_iff_eq] using htag
    obtain ⟨t, hst, hp2⟩ := streams_again hi h hlimit hagain hread.left
    obtain ⟨u, htu, hp7⟩ := streams_skip hi hp2 ha (hread.after hst)
    exact ⟨u, by simpa [Iteration.results, Iteration.pixel] using hst.trans htu, hp7⟩

/-- One iteration, from S1 to S1. -/
theorem streams_iteration {it : Iteration} (h : s.Performs i .s1) (hlimit : s.cfg.pollLimit = none)
    (hiter : s.iter.toNat < 1225) (hn : s.n.toNat ≤ s.iter.toNat) (htag : it.tagged = true)
    (hread : s.WillRead it.results) :
    ∃ t, Streams 1 it.results.length it.pixel.toList s t ∧ t.Performs i .s1 := by
  obtain ⟨t, hst, hp2⟩ := streams_s1 hi h hiter
  have hn' : t.n.toNat < 1225 := by rw [hst.n, List.length_nil]; omega
  obtain ⟨u, htu, hp7⟩ := streams_bytes hi hp2 (hst.cfg ▸ hlimit) hn' htag (State.WillRead.after (vs := []) hread hst)
  have hsu := hst.trans htu
  obtain ⟨v, huv, hp1⟩ := streams_s7 hi hp7 (by rw [hsu.iter]; omega)
  exact ⟨v, by simpa using hsu.trans huv, hp1⟩

/-- All that is left of the 1225 iterations (R236, R239). -/
theorem streams_iterations {its : List Iteration} (h : s.Performs i .s1) (hlimit : s.cfg.pollLimit = none)
    (hlen : s.iter.toNat + its.length = 1225) (hn : s.n.toNat ≤ s.iter.toNat)
    (htag : ∀ it ∈ its, it.tagged = true) (hread : s.WillRead (its.flatMap Iteration.results)) :
    ∃ t, Streams its.length (its.flatMap Iteration.results).length (its.filterMap Iteration.pixel) s t ∧
      t.Performs i .s1 := by
  induction its generalizing s with
  | nil => exact ⟨s, .refl s, h⟩
  | cons it its ih =>
    rw [List.length_cons] at hlen
    rw [List.flatMap_cons] at hread
    obtain ⟨t, hst, hp1⟩ := streams_iteration hi h hlimit (by omega) hn (htag it List.mem_cons_self) hread.left
    have hpix : it.pixel.toList.length ≤ 1 := by cases it.pixel <;> simp
    have hlen' : t.iter.toNat + its.length = 1225 := by rw [hst.iter]; omega
    have hn' : t.n.toNat ≤ t.iter.toNat := by rw [hst.n, hst.iter]; omega
    obtain ⟨u, htu, hu1⟩ := ih hp1 (hst.cfg ▸ hlimit) hlen' hn' (fun x hx => htag x (List.mem_cons_of_mem it hx))
      (hread.after hst)
    have hcat : (it :: its).filterMap Iteration.pixel = it.pixel.toList ++ its.filterMap Iteration.pixel := by
      cases hp : it.pixel <;> simp [hp]
    rw [hcat, List.flatMap_cons, List.length_append, List.length_cons, Nat.add_comm its.length]
    exact ⟨u, hst.trans htu, hu1⟩

end loop

/-! ## The counts -/

/-- Every iteration emits a pixel or skips (R239). -/
theorem length_pixels_add_skips (its : List Iteration) :
    (its.filterMap Iteration.pixel).length + its.countP Iteration.isSkipped = its.length := by
  induction its with
  | nil => rfl
  | cons it its ih =>
    cases it <;> simp [List.filterMap_cons, List.countP_cons, Iteration.pixel, Iteration.isSkipped] <;> omega

/-- A pixel takes two reads, a skip one, and every re-read one more (R239). -/
theorem length_results (its : List Iteration) :
    (its.flatMap Iteration.results).length =
      2 * (its.filterMap Iteration.pixel).length + its.countP Iteration.isSkipped
        + (its.map Iteration.rereads).sum := by
  induction its with
  | nil => rfl
  | cons it its ih =>
    rw [List.flatMap_cons, List.length_append, ih]
    cases it <;>
      simp [List.filterMap_cons, List.countP_cons, Iteration.results, Iteration.pixel, Iteration.isSkipped,
        Iteration.rereads] <;>
      omega

/-- A command that runs at S0 is one of the two that stream. -/
theorem eq_of_labelOf_s0 {i : Instr} (hlabel : labelOf i .s0 = true) : i = .frameStream ∨ i = .frameRead := by
  cases i <;> simp_all [labelOf, framePhase, isInitLabel]

/-- Settles O38: S0, the 1225 iterations, S1 with the loop done, and S8. -/
theorem streamingPhaseStoresThePixels : Obligations.StreamingPhaseStoresThePixels := by
  intro its s hlen htag hat hlimit hread
  obtain ⟨hbusy, hu, hlink, hrst, i, hd, hlabel⟩ := hat
  have hi := eq_of_labelOf_s0 hlabel
  obtain ⟨hs0, hs1, -, -, -, -, -, -, -, -, -, hs8⟩ := streamPhaseMicroSteps i hi
  have hp0 : s.Performs i .s0 := ⟨hbusy, hu, hlink, hrst, hd⟩
  obtain ⟨hrun0, hp1⟩ := hp0.run_exec (hs0 s hu)
  obtain ⟨t, hst, ht1⟩ := streams_iterations hi hp1 hlimit (by simpa using hlen) (Nat.le_refl 0) htag hread
  obtain ⟨m, hloop⟩ := hst.reached
  have hiter : t.iter = 1225#11 := BitVec.eq_of_toNat_eq (by rw [hst.iter, hlen]; rfl)
  obtain ⟨hrun1, hp8⟩ := ht1.run_exec (hs1 t ht1.atLabel hiter)
  obtain ⟨hrun8, -⟩ := hp8.run_exec (hs8 _ rfl)
  have hrun := (run_add _ hrun0).trans ((run_add _ hloop).trans ((run_add 1 hrun1).trans hrun8))
  have hcount : (its.filterMap Iteration.pixel).length = 1225 - its.countP Iteration.isSkipped := by
    have hpixels := length_pixels_add_skips its
    omega
  have hn : t.n.toNat = (its.filterMap Iteration.pixel).length := by simpa using hst.n
  have hfb : t.fb = Memory.writeFrom s.fb 0 (its.filterMap Iteration.pixel) := hst.fb
  have hxfers : t.xfers = s.xfers + 2 * (its.flatMap Iteration.results).length := hst.xfers
  refine ⟨_, _, hrun, rfl, hiter, hn.trans hcount, rfl, fun j v hv => ?_, hcount, fun j hj => ?_, ?_⟩
  · show Memory.read t.fb j = some v
    rw [hfb, ← Nat.zero_add j]
    exact Memory.read_writeFrom s.fb 0 hv
  · show Memory.read t.fb j = Memory.read s.fb j
    rw [hfb]
    exact Memory.read_writeFrom_other _ _ _ (.inr (by omega))
  · show t.xfers = _
    rw [hxfers, length_results, hcount]

end Sys2Proof.Machine
end

section
/-! PROOFS. SET_LED (45_led.md R260 to R262): its micro-steps, and the whole command from an idle engine. -/

namespace Sys2Proof.Machine

/-! ## Micro-steps -/

theorem writes_of_execSetLed {on : Bool} {l next : Label} {reg val : Byte}
    (h : ∀ s : State, execSetLed on { s with upc := l } = wr reg val next { s with upc := l } := by
      exact fun _ => rfl) :
    Writes (.setLed on) l reg val next := by
  refine writes_of_wr ?_
  rintro s rfl
  exact h s

/-- Settles O41: L0 is the wait, L1 to L3 are one `WR` each, L4 is `done`. -/
theorem setLedMicroSteps : Obligations.SetLedMicroSteps := by
  refine fun on => ⟨fun s hu => ?_, fun s hu => ?_, writes_of_execSetLed, writes_of_execSetLed,
    writes_of_execSetLed, fun s hu => ?_⟩
  · exact exec_of_idle (by simp) (by simp) hu
  · simp only [exec, execSetLed, hu]
    rfl
  · simp only [exec, execSetLed, hu]
    rfl

/-! ## The whole command -/

/-- `s` with the wait and the three writes of SET_LED over and the command at L4 (R260, R115). -/
def State.ledWritten (on : Bool) (s : State) : State :=
  { s.answered 6 with
    csl := .deasserted, session := false, link := .idle, upc := .l4,
    trace := ([Event.dly 200000] ++ txwEvents 0xFF#8 0x14#8 (s.replyAt 0) (s.replyAt 1)
      ++ txwEvents 0xEF#8 (if on then 0x1C#8 else 0x00#8) (s.replyAt 2) (s.replyAt 3)
      ++ txwEvents 0xFF#8 0x00#8 (s.replyAt 4) (s.replyAt 5)).reverse ++ s.trace }

theorem State.Performs.run_ledWritten {s : State} {on : Bool} (h : s.Performs (.setLed on) .l0) :
    run 37 s = .next (s.ledWritten on) ∧ (s.ledWritten on).Performs (.setLed on) .l4 := by
  obtain ⟨-, hl0, hl1, hl2, hl3, -⟩ := setLedMicroSteps on
  obtain ⟨r0, hp1⟩ := h.run_wait hl0
  obtain ⟨r1, hp2⟩ := hp1.run_writes hl1
  obtain ⟨r2, hp3⟩ := hp2.run_writes hl2
  obtain ⟨r3, -⟩ := hp3.run_writes hl3
  refine ⟨?_, h.busy, rfl, rfl, h.rstQuiet, h.decodes⟩
  rw [run_add 36 r0, run_add 24 r1, run_add 12 r2, r3]
  simp [State.ledWritten, State.proceed, State.wrote, State.emit, State.goto, State.answered, State.replyAt,
    List.drop_drop, Nat.add_assoc]

/-- Settles O42: acceptance, the wait, the three writes, `done`; bit 0 of the operand selects the middle byte. -/
theorem setLedRun : Obligations.SetLedRun := by
  intro s w h hop
  have hd : decodeCommand w = .ok (.setLed ((cmdVal w).getLsbD 0)) := by simp [decodeCommand, hop]
  obtain ⟨-, -, -, -, -, hl4⟩ := setLedMicroSteps ((cmdVal w).getLsbD 0)
  obtain ⟨haccept, hp0⟩ := h.run_accept hd
  obtain ⟨hwrites, hp4⟩ := hp0.run_ledWritten
  rw [run_add 38 haccept, run_add 1 hwrites, hp4.run_computes hl4]
  conv_rhs => rw [← h.idled]
  rfl

end Sys2Proof.Machine
end

section
/-! PROOFS. The polling loops at EG2, CG2 and S2 (44_frame.md R231, R236, R242; 60_exceptions.md R277, R279): one pass,
any number of passes below the optional bound, and the end the bound brings. -/

namespace Sys2Proof.Machine

/-! ## The three loops -/

/-- At the label `l` the instruction polls: it reads 0x58 into `T` or `A`, the read counted, and at the label after that
a byte that repeats the loop takes it back to `l`, or to the end where the bound is reached. -/
def PollsAt (i : Instr) (l : Label) : Prop :=
  ∃ (store : Byte → State → State) (test : Label),
    (store = State.setTPolled ∨ store = State.setAPolled) ∧ Reads i l 0x58#8 store test ∧
    ∀ (v : Byte) (s : State), repolls l v = true →
      exec i ((store v s).proceed test) = .next (((store v s).proceed test).pollAgain l)

theorem classify_of_repolls {s : State} (ha : repolls .s2 s.a = true) : classify s = s.pollAgain .s2 := by
  have htag : s.a.extractLsb' 6 2 = 0b00#2 ∨ s.a.extractLsb' 6 2 = 0b11#2 := by simpa [repolls] using ha
  obtain htag | htag := htag <;> simp [classify, tagCase, tagOf, htag]

theorem pollsAt_eg2 {i : Instr} (hi : i = .frameEnable ∨ i = .frameRead) : PollsAt i .eg2 := by
  have heg3 : Does i .eg3 (gateTest .eg2 .e4) := does_of_enable hi
  exact ⟨_, .eg3, .inl rfl, reads_of_rd (does_of_enable hi),
    fun v s hv => (heg3 _ rfl).trans (congrArg Host.Outcome.next (if_pos hv))⟩

theorem pollsAt_cg2 {i : Instr} (hi : i = .frameStream ∨ i = .frameRead) : PollsAt i .cg2 := by
  have hcg3 : Does i .cg3 (gateTest .cg2 .c4) := does_of_completion hi
  exact ⟨_, .cg3, .inl rfl, reads_of_rd (does_of_completion hi),
    fun v s hv => (hcg3 _ rfl).trans (congrArg Host.Outcome.next (if_pos hv))⟩

theorem pollsAt_s2 {i : Instr} (hi : i = .frameStream ∨ i = .frameRead) : PollsAt i .s2 := by
  have hs3 : Does i .s3 (fun u => .next (classify u)) := does_of_stream hi
  exact ⟨_, .s3, .inr rfl, reads_of_rd (does_of_stream hi),
    fun v s hv => (hs3 _ rfl).trans (congrArg Host.Outcome.next (classify_of_repolls hv))⟩

/-- A command that runs at the label of a polling read polls there (R26). -/
theorem pollsAt_of_labelOf {i : Instr} {l : Label} (hl : l = .eg2 ∨ l = .cg2 ∨ l = .s2) (hlabel : labelOf i l = true) :
    PollsAt i l := by
  obtain rfl | rfl | rfl := hl
  · exact pollsAt_eg2 (by cases i <;> simp_all [labelOf, framePhase, isInitLabel])
  · exact pollsAt_cg2 (by cases i <;> simp_all [labelOf, framePhase, isInitLabel])
  · exact pollsAt_s2 (by cases i <;> simp_all [labelOf, framePhase, isInitLabel])

/-! ## Passes of a loop -/

/-- From `s` to `t` the sensor has answered `r` polling reads, all counted; the parameters, the loop counters, `PIXCNT`
and the frame buffer are as they were. -/
structure Polled (r : Nat) (s t : State) : Prop where
  polls : t.polls = s.polls + r
  replies : t.replies = s.replies.drop (2 * r)
  xfers : t.xfers = s.xfers + 2 * r
  cfg : t.cfg = s.cfg
  iter : t.iter = s.iter
  n : t.n = s.n
  pixcnt : t.pixcnt = s.pixcnt
  fb : t.fb = s.fb

theorem Polled.trans {r r' : Nat} {s t u : State} (h : Polled r s t) (h' : Polled r' t u) : Polled (r + r') s u where
  polls := by rw [h'.polls, h.polls, Nat.add_assoc]
  replies := by rw [h'.replies, h.replies, List.drop_drop, Nat.mul_add]
  xfers := by rw [h'.xfers, h.xfers, Nat.mul_add, Nat.add_assoc]
  cfg := h'.cfg.trans h.cfg
  iter := h'.iter.trans h.iter
  n := h'.n.trans h.n
  pixcnt := h'.pixcnt.trans h.pixcnt
  fb := h'.fb.trans h.fb

theorem Polled.replyAt {r : Nat} {s t : State} (h : Polled r s t) (j : Nat) : t.replyAt j = s.replyAt (2 * r + j) := by
  simp [State.replyAt, h.replies, h.xfers, Nat.add_assoc]

section passes

variable {i : Instr} {l : Label} (hpolls : PollsAt i l) {s : State} (h : s.Performs i l)
include hpolls h

/-- One read whose byte repeats the loop: twelve steps lead to `pollAgain`. -/
theorem PollsAt.run_read (hv : repolls l (s.replyAt 1) = true) :
    ∃ t, run 12 s = .next (t.pollAgain l) ∧ Polled 1 s t ∧ (t.goto l).Performs i l := by
  obtain ⟨store, test, hstore, hreads, htest⟩ := hpolls
  have hsame (v : Byte) (u : State) : SameCommand u (store v u) := by
    obtain rfl | rfl := hstore <;> exact ⟨rfl, rfl, rfl⟩
  obtain ⟨hread, hp⟩ := h.run_reads hreads hsame
  have hstep := (step_of_command hp.rstQuiet hp.busy (.inl hp.linkIdle) hp.decodes).trans (htest _ (s.replied 0x58#8) hv)
  refine ⟨_, (run_add 1 hread).trans (run_one hstep), ?_, hp.goesOn (t := State.goto l _) ⟨rfl, rfl, rfl⟩ rfl⟩
  obtain rfl | rfl := hstore <;> constructor <;> simp [State.proceed, State.replied, State.answered]

/-- As long as the bytes repeat the loop and its count stays below the bound, it goes round. -/
theorem PollsAt.run_passes {k : Nat} (hrepeat : ∀ j, j < k → repolls l (s.replyAt (2 * j + 1)) = true)
    (hroom : ∀ j, j < k → pollExhausted s.cfg.pollLimit (s.polls + (j + 1)) = false) :
    ∃ t, run (12 * k) s = .next t ∧ Polled k s t ∧ t.Performs i l := by
  induction k with
  | zero => exact ⟨s, rfl, ⟨rfl, rfl, rfl, rfl, rfl, rfl, rfl, rfl⟩, h⟩
  | succ k ih =>
    obtain ⟨t, hrun, hst, hp⟩ := ih (fun j hj => hrepeat j (by omega)) (fun j hj => hroom j (by omega))
    obtain ⟨u, hpass, htu, hgoes⟩ := hpolls.run_read hp (by rw [hst.replyAt]; exact hrepeat k (by omega))
    have hsu := hst.trans htu
    have hagain : u.pollAgain l = u.goto l := by
      have hbelow := hroom k (by omega)
      rw [← hsu.cfg, ← hsu.polls] at hbelow
      simp [State.pollAgain, hbelow]
    refine ⟨u.goto l, ?_, ⟨hsu.polls, hsu.replies, hsu.xfers, hsu.cfg, hsu.iter, hsu.n, hsu.pixcnt, hsu.fb⟩,
      hgoes⟩
    rw [Nat.mul_succ, run_add 12 hrun, hpass, hagain]

end passes

/-- Settles O39: without a bound every pass finds room for the next. -/
theorem pollingLoopsAreUnbounded : Obligations.PollingLoopsAreUnbounded := by
  intro k l s hl hat hlimit hrepeat
  obtain ⟨hbusy, hu, hlink, hrst, i, hd, hlabel⟩ := hat
  have hpolls := pollsAt_of_labelOf hl hlabel
  obtain ⟨t, hrun, hst, hp⟩ :=
    hpolls.run_passes ⟨hbusy, hu, hlink, hrst, hd⟩ hrepeat fun j _ => by simp [hlimit, pollExhausted]
  exact ⟨t, hrun, ⟨hp.busy, hp.atLabel, hp.linkIdle, hp.rstQuiet, i, hp.decodes, hlabel⟩, hp.busy, hst.xfers, hst.fb,
    hst.iter, hst.n⟩

/-- Settles O40: of the `k + 1` reads the bound allows, the first `k` stay below it and the last one reaches it. -/
theorem finitePollLimitEndsTheCommand : Obligations.FinitePollLimitEndsTheCommand := by
  intro k l s hl hat hcount hlimit hrepeat
  obtain ⟨hbusy, hu, hlink, hrst, i, hd, hlabel⟩ := hat
  have hpolls := pollsAt_of_labelOf hl hlabel
  obtain ⟨t, hrun, hst, hp⟩ :=
    hpolls.run_passes (k := k) ⟨hbusy, hu, hlink, hrst, hd⟩ (fun j hj => hrepeat j (by omega))
      fun j hj => by simpa [hlimit, hcount, pollExhausted] using hj
  obtain ⟨u, hlast, htu, -⟩ := hpolls.run_read hp (by rw [hst.replyAt]; exact hrepeat k (by omega))
  have hsu := hst.trans htu
  have hend : u.pollAgain l = u.raiseFailed .pollLimit := by
    simp [State.pollAgain, pollExhausted, hsu.cfg, hsu.polls, hlimit, hcount]
  refine ⟨u.raiseFailed .pollLimit, ?_, rfl, rfl, rfl, rfl, hsu.xfers, hsu.pixcnt, hsu.fb⟩
  rw [Nat.mul_succ, run_add 12 hrun, hlast, hend]

end Sys2Proof.Machine
end

section
/-! PROOFS. How a running command ends (60_exceptions.md R271 to R276, R279, R282): by `done`, by the optional bound, or by
INIT's failure. -/

namespace Sys2Proof.Machine

/-- From `s` to `t` the instruction keeps a running command running, or ends it in one of the ways there are. -/
inductive EndStep (i : Instr) (s t : State) : Prop
  | goesOn (hbusy : s.busy = true → t.busy = true)
  | done (hend : t = { s.done with istate := t.istate })
  | pollLimit (hend : t = s.raiseFailed .pollLimit) (hlimit : s.cfg.pollLimit ≠ none)
  | initFailed (v : Byte) (hinit : i = .init v) (code : ErrCode) (hend : t = s.initFailed code)
      (hcode : code = .identityMismatch ∨ code = .unsupportedVariant)

section rules

variable {i : Instr}

/-! ## The shared operations -/

theorem done_endStep (s : State) : EndStep i s s.done := .done rfl

/-- From `IDLE` a command is dispatched, and so runs. -/
theorem dispatchTo_endStep (l : Label) (s : State) : EndStep i s (s.dispatchTo l) := .goesOn fun _ => rfl

theorem wait_endStep (us : Nat) (l : Label) (s : State) : Ensures (EndStep i s) (wait us l s) := .goesOn id

theorem pulse_endStep (v : Level) (l : Label) (s : State) : Ensures (EndStep i s) (pulse v l s) := .goesOn id

theorem wr_endStep (reg val : Byte) (l : Label) (s : State) : Ensures (EndStep i s) (wr reg val l s) :=
  (ensures_wr ..).mpr ⟨fun _ => .goesOn id, fun _ => .goesOn id⟩

theorem rd_endStep {store : Byte → State → State} {s : State} {reg : Byte} {l : Label}
    (hstore : (store s.rx s).busy = s.busy := by rfl) : Ensures (EndStep i s) (rd reg store l s) :=
  (ensures_rd ..).mpr ⟨fun _ => .goesOn id, fun _ => .goesOn hstore.trans⟩

theorem storePixel_endStep (v : Byte) (l : Label) (s : State) : Ensures (EndStep i s) (storePixel v l s) := by
  refine ensures_iff.mpr fun t h => ?_
  obtain ⟨-, rfl⟩ := storePixel_next h
  exact .goesOn id

/-! ## The frame protocol -/

/-- The bound ends a command only where there is one (R279). -/
theorem pollAgain_endStep (l : Label) (s : State) : EndStep i s (s.pollAgain l) := by
  obtain ⟨hreached, h⟩ | ⟨-, h⟩ := pollAgain_cases l s <;> rw [h]
  · exact .pollLimit rfl fun hnone => by simp [hnone, pollExhausted] at hreached
  · exact .goesOn id

theorem gateArm_endStep (l : Label) (s : State) : Ensures (EndStep i s) (gateArm l s) :=
  (ensures_wr ..).mpr ⟨fun _ => .goesOn id, fun _ => .goesOn id⟩

theorem gateTest_endStep (poll exit : Label) (s : State) : Ensures (EndStep i s) (gateTest poll exit s) := by
  unfold gateTest
  split
  · exact pollAgain_endStep poll s
  · exact .goesOn id

theorem classify_endStep (s : State) : EndStep i s (classify s) := by
  unfold classify
  split
  · exact .goesOn id
  · exact pollAgain_endStep .s2 s
  · exact .goesOn id

theorem enableWrite_endStep (s : State) : Ensures (EndStep i s) (enableWrite s) := by
  unfold enableWrite
  split
  · exact wr_endStep ..
  · exact ensures_fault ..

theorem enablePhase_endStep (s : State) : Ensures (EndStep i s) (enablePhase s) := by
  unfold enablePhase
  split
  case h_1 | h_2 | h_4 | h_9 => exact .goesOn id
  case h_3 => exact enableWrite_endStep s
  case h_5 => exact wr_endStep ..
  case h_6 => exact gateArm_endStep ..
  case h_7 => exact rd_endStep
  case h_8 => exact gateTest_endStep ..
  case h_10 =>
    split
    · exact done_endStep s
    · exact .goesOn id
  case h_11 => exact ensures_fault ..

theorem streamPhase_endStep (s : State) : Ensures (EndStep i s) (streamPhase s) := by
  unfold streamPhase
  split
  case h_1 | h_7 | h_8 | h_9 => exact .goesOn id
  case h_2 => split <;> exact .goesOn id
  case h_3 | h_5 => exact rd_endStep
  case h_4 => exact classify_endStep s
  case h_6 => exact storePixel_endStep ..
  case h_10 => exact ensures_fault ..

theorem completionPhase_endStep (s : State) : Ensures (EndStep i s) (completionPhase s) := by
  unfold completionPhase
  split
  case h_1 => exact wr_endStep ..
  case h_2 => exact gateArm_endStep ..
  case h_3 => exact rd_endStep
  case h_4 => exact gateTest_endStep ..
  case h_5 => exact done_endStep s
  case h_6 => exact ensures_fault ..

/-! ## INIT -/

theorem bulkTest_endStep (s : State) : Ensures (EndStep i s) (bulkTest s) := by
  unfold bulkTest
  split
  · exact .goesOn id
  · exact ensures_fault ..

theorem bulkApply_endStep (s : State) : Ensures (EndStep i s) (bulkApply s) := by
  unfold bulkApply
  split
  · exact wr_endStep ..
  · exact wait_endStep ..
  · exact ensures_fault ..

end rules

/-- A check of INIT: the Failed transition, or the next micro-step (R170, R171). -/
theorem check_endStep (v : Byte) (c : Bool) {code : ErrCode} (l : Label) (s : State)
    (hcode : code = .identityMismatch ∨ code = .unsupportedVariant) :
    EndStep (.init v) s (if c then s.initFailed code else s.goto l) := by
  cases c with
  | true => exact .initFailed v rfl code rfl hcode
  | false => exact .goesOn id

theorem execInit_endStep (v : Byte) (s : State) : Ensures (EndStep (.init v) s) (execInit v s) := by
  unfold execInit
  split
  case h_1 => exact dispatchTo_endStep ..
  -- the entry, the calibration block and the loop counter
  case h_2 | h_33 | h_36 | h_37 | h_38 | h_46 | h_49 => exact .goesOn id
  -- the reset pulse and the waits
  case h_3 | h_5 | h_7 => exact pulse_endStep ..
  case h_4 | h_6 | h_8 | h_10 | h_19 => exact wait_endStep ..
  -- the writes
  case h_9 | h_20 | h_21 | h_22 | h_23 | h_24 | h_26 | h_27 | h_28 | h_29 | h_30 | h_31 | h_39 | h_40 | h_41 | h_42
    | h_43 | h_44 => exact wr_endStep ..
  -- the reads
  case h_11 | h_12 | h_14 | h_15 | h_16 | h_17 | h_18 | h_25 | h_32 | h_34 | h_35 | h_50 | h_51 => exact rd_endStep
  -- the bulk load
  case h_47 => exact bulkTest_endStep s
  case h_48 => exact bulkApply_endStep s
  -- the three checks, and the end
  case h_13 | h_52 => exact check_endStep v _ _ s (.inl rfl)
  case h_45 => exact check_endStep v _ _ s (.inr rfl)
  case h_53 => exact .done rfl
  case h_54 => exact ensures_fault ..

/-! ## Every instruction -/

theorem exec_endStep (i : Instr) (s : State) : Ensures (EndStep i s) (exec i s) := by
  cases i with
  | init v => exact execInit_endStep v s
  | regWrite reg val =>
    show Ensures _ (execRegWrite reg val s)
    unfold execRegWrite
    split
    case h_1 => exact dispatchTo_endStep ..
    case h_2 => exact wr_endStep ..
    case h_3 => exact done_endStep s
    case h_4 => exact ensures_fault ..
  | regRead reg =>
    show Ensures _ (execRegRead reg s)
    unfold execRegRead
    split
    case h_1 => exact dispatchTo_endStep ..
    case h_2 => exact rd_endStep
    case h_3 => exact done_endStep s
    case h_4 => exact ensures_fault ..
  | readMotion =>
    show Ensures _ (execReadMotion s)
    unfold execReadMotion
    split
    case h_1 => exact dispatchTo_endStep ..
    case h_2 | h_3 | h_4 | h_5 | h_6 => exact rd_endStep
    case h_7 => exact done_endStep s
    case h_8 => exact ensures_fault ..
  | frameEnable =>
    show Ensures _ (execFrameEnable s)
    unfold execFrameEnable
    split
    · exact dispatchTo_endStep ..
    · exact enablePhase_endStep s
    · exact ensures_fault ..
  | frameStream =>
    show Ensures _ (execFrameStream s)
    unfold execFrameStream
    split
    · exact dispatchTo_endStep ..
    · exact streamPhase_endStep s
    · exact completionPhase_endStep s
    · exact ensures_fault ..
  | frameRead =>
    show Ensures _ (execFrameRead s)
    unfold execFrameRead
    split
    · exact dispatchTo_endStep ..
    · exact enablePhase_endStep s
    · exact streamPhase_endStep s
    · exact completionPhase_endStep s
    · exact ensures_fault ..
  | setLed on =>
    show Ensures _ (execSetLed on s)
    unfold execSetLed
    split
    case h_1 => exact dispatchTo_endStep ..
    case h_2 => exact wait_endStep ..
    case h_3 | h_4 | h_5 => exact wr_endStep ..
    case h_6 => exact done_endStep s
    case h_7 => exact ensures_fault ..
  | wframe reg val =>
    refine ensures_iff.mpr fun t h => ?_
    obtain ⟨hframe, -⟩ := wireFrameFrame _ s t (.inl ⟨reg, val, rfl⟩) h
    exact .goesOn fun hb => by rw [hframe]; exact hb
  | rframe reg =>
    refine ensures_iff.mpr fun t h => ?_
    obtain ⟨hframe, -⟩ := wireFrameFrame _ s t (.inr ⟨reg, rfl⟩) h
    exact .goesOn fun hb => by rw [hframe]; exact hb

/-- Settles O54, over the ways an instruction can end a command. -/
theorem everyEndIsDoneOrRaise : Obligations.EveryEndIsDoneOrRaise := by
  intro i s t h hbusy hidle
  cases ensures_iff.mp (exec_endStep i s) t h with
  | goesOn hgoes => exact absurd (hgoes hbusy) (by simp [hidle])
  | done hend =>
    rw [hend]
    exact ⟨rfl, .inl ⟨rfl, rfl⟩⟩
  | pollLimit hend hlimit =>
    subst hend
    exact ⟨rfl, .inr (.inl ⟨rfl, rfl, hlimit⟩)⟩
  | initFailed v hinit code hend hcode =>
    subst hend
    exact ⟨rfl, .inr (.inr ⟨rfl, hcode, rfl, v, hinit⟩)⟩

end Sys2Proof.Machine
end

section
/-! PROOFS. `ISTATE` gates nothing (60_exceptions.md R283, R285; 70_reset_and_hazards.md R306): an operation run with
`ISTATE` blanked first and one run with it as it stands answer the same, once `ISTATE` is left out of the answer. -/

namespace Sys2Proof.Machine

/-- `s` with `ISTATE` at its reset value. -/
def State.blank (s : State) : State := { s with istate := .uninit }

theorem State.blank_upc (s : State) : s.blank.upc = s.upc := rfl
theorem State.blank_link (s : State) : s.blank.link = s.link := rfl
theorem State.blank_n (s : State) : s.blank.n = s.n := rfl
theorem State.blank_a (s : State) : s.blank.a = s.a := rfl
theorem State.blank_idx (s : State) : s.blank.idx = s.idx := rfl
theorem State.blank_cfg (s : State) : s.blank.cfg = s.cfg := rfl
theorem State.blank_var (s : State) : s.blank.var = s.var := rfl
theorem State.blank_position (s : State) : s.blank.position = s.position := rfl
theorem State.blank_bulkItem (s : State) : s.blank.bulkItem = s.bulkItem := rfl
theorem State.blank_latched (s : State) : s.blank.latched = s.latched := rfl
theorem State.blank_cmdIn (s : State) : s.blank.cmdIn = s.cmdIn := rfl

/-- States that agree but for `ISTATE` differ in its value only. -/
theorem State.eq_with_istate {s t : State} (h : s.blank = t.blank) : s = { t with istate := s.istate } :=
  congrArg (fun u : State => { u with istate := s.istate }) h

/-- The outcome with `ISTATE` left out of its next state, where there is one. -/
def blankOut : Out → Out
  | .next t => .next t.blank
  | .fault r => .fault r
  | .refused r => .refused r

/-- An outcome that agrees with a next state but for `ISTATE` is that state with some value of it. -/
theorem next_of_blankOut_eq {o : Out} {t : State} (h : blankOut o = .next t.blank) :
    ∃ y, o = .next { t with istate := y } := by
  cases o with
  | next u =>
    have hu : u.blank = t.blank := by simpa [blankOut] using h
    exact ⟨u.istate, congrArg Host.Outcome.next (State.eq_with_istate hu)⟩
  | fault r => cases h
  | refused r => cases h

/-- What `m` does to everything but `ISTATE` does not depend on it. -/
def Blind (m : State → Out) : Prop := ∀ s, blankOut (m s.blank) = blankOut (m s)

/-- Two branches on one condition agree but for `ISTATE` where their sides do. -/
theorem blank_ite {c : Prop} [Decidable c] {s t s' t' : State} (hs : s.blank = s'.blank) (ht : t.blank = t'.blank) :
    (if c then s else t).blank = (if c then s' else t').blank := by
  split
  · exact hs
  · exact ht

theorem blankOut_ite {c : Prop} [Decidable c] {s t s' t' : State} (hs : s.blank = s'.blank) (ht : t.blank = t'.blank) :
    blankOut (.next (if c then s else t)) = blankOut (.next (if c then s' else t')) :=
  congrArg Host.Outcome.next (blank_ite hs ht)

/-! ## The shared operations -/

theorem wr_blind (reg val : Byte) (l : Label) : Blind (wr reg val l) := by
  intro s
  unfold wr
  rw [State.blank_link]
  split <;> rfl

/-- `RD` is blind where its store is. -/
theorem rd_blind {store : Byte → State → State} {reg : Byte} {l : Label} (s : State)
    (hstore : (store s.rx s.blank).blank = (store s.rx s).blank := by rfl) :
    blankOut (rd reg store l s.blank) = blankOut (rd reg store l s) := by
  unfold rd
  rw [State.blank_link]
  split
  · rfl
  · exact congrArg (fun u : State => Host.Outcome.next { u with link := .idle, upc := l }) hstore
  · rfl

theorem wait_blind (us : Nat) (l : Label) : Blind (wait us l) := fun _ => rfl

theorem pulse_blind (v : Level) (l : Label) : Blind (pulse v l) := fun _ => rfl

theorem storePixel_blind (v : Byte) (l : Label) : Blind (storePixel v l) := by
  intro s
  unfold storePixel
  rw [State.blank_n]
  split <;> rfl

theorem carryFrame_blind (f : Frame) (ops : List BusOp) : Blind (carryFrame f ops) := by
  intro s
  unfold carryFrame
  rw [State.blank_position]
  split
  case h_1 op _ => cases op <;> rfl
  case h_2 => rfl

/-! ## The frame protocol -/

theorem pollAgain_blank (l : Label) (s : State) : (s.blank.pollAgain l).blank = (s.pollAgain l).blank :=
  blank_ite rfl rfl

theorem gateArm_blind (l : Label) : Blind (gateArm l) := fun s => wr_blind _ _ l { s with polls := 0 }

theorem gateTest_blind (poll exit : Label) : Blind (gateTest poll exit) :=
  fun s => blankOut_ite (pollAgain_blank poll s) rfl

theorem classify_blank (s : State) : (classify s.blank).blank = (classify s).blank := by
  unfold classify
  rw [State.blank_a]
  split
  · rfl
  · exact pollAgain_blank .s2 s
  · rfl

theorem enableWrite_blind : Blind enableWrite := by
  intro s
  unfold enableWrite
  simp only [State.blank_cfg, State.blank_idx]
  split
  · exact wr_blind _ _ _ s
  · rfl

theorem enablePhase_blind : Blind enablePhase := by
  intro s
  unfold enablePhase
  rw [State.blank_upc]
  split
  case h_1 | h_2 | h_4 => rfl
  case h_3 => exact enableWrite_blind s
  case h_5 => exact wr_blind _ _ _ s
  case h_6 => exact gateArm_blind _ s
  case h_7 => exact rd_blind s
  case h_8 => exact gateTest_blind _ _ s
  case h_9 => exact wait_blind _ _ s
  case h_10 => exact blankOut_ite rfl rfl
  case h_11 => rfl

theorem streamPhase_blind : Blind streamPhase := by
  intro s
  unfold streamPhase
  rw [State.blank_upc]
  split
  case h_1 | h_7 | h_8 | h_9 => rfl
  case h_2 => exact blankOut_ite rfl rfl
  case h_3 | h_5 => exact rd_blind s
  case h_4 => exact congrArg Host.Outcome.next (classify_blank s)
  case h_6 => exact storePixel_blind _ _ s
  case h_10 => rfl

theorem completionPhase_blind : Blind completionPhase := by
  intro s
  unfold completionPhase
  rw [State.blank_upc]
  split
  case h_1 => exact wr_blind _ _ _ s
  case h_2 => exact gateArm_blind _ s
  case h_3 => exact rd_blind s
  case h_4 => exact gateTest_blind _ _ s
  case h_5 | h_6 => rfl

/-! ## INIT -/

theorem bulkTest_blind : Blind bulkTest := by
  intro s
  unfold bulkTest
  simp only [State.blank_cfg, State.blank_var]
  split <;> rfl

theorem bulkApply_blind : Blind bulkApply := by
  intro s
  unfold bulkApply
  rw [State.blank_bulkItem]
  split
  · exact wr_blind _ _ _ s
  · exact wait_blind _ _ s
  · rfl

/-- INIT alone writes `ISTATE`, and no branch of it reads it. -/
theorem execInit_blind (v : Byte) : Blind (execInit v) := by
  intro s
  unfold execInit
  rw [State.blank_upc]
  split
  -- acceptance, the entry, the calibration block, the loop counter and the end
  case h_1 | h_2 | h_33 | h_36 | h_37 | h_38 | h_46 | h_49 | h_53 => rfl
  -- the reset pulse and the waits
  case h_3 | h_5 | h_7 => exact pulse_blind _ _ s
  case h_4 | h_6 | h_8 | h_10 | h_19 => exact wait_blind _ _ s
  -- the writes
  case h_9 | h_20 | h_21 | h_22 | h_23 | h_24 | h_26 | h_27 | h_28 | h_29 | h_30 | h_31 | h_39 | h_40 | h_41 | h_42
    | h_43 | h_44 => exact wr_blind _ _ _ s
  -- the reads
  case h_11 | h_12 | h_14 | h_15 | h_16 | h_17 | h_18 | h_25 | h_32 | h_34 | h_35 | h_50 | h_51 => exact rd_blind s
  -- the three checks
  case h_13 | h_45 | h_52 => exact blankOut_ite rfl rfl
  -- the bulk load
  case h_47 => exact bulkTest_blind s
  case h_48 => exact bulkApply_blind s
  case h_54 => rfl

/-! ## Every instruction -/

theorem exec_blind (i : Instr) : Blind (exec i) := by
  intro s
  cases i with
  | init v => exact execInit_blind v s
  | wframe reg val => exact carryFrame_blind _ _ s
  | rframe reg => exact carryFrame_blind _ _ s
  | regWrite reg val =>
    simp only [exec, execRegWrite, State.blank_upc]
    split
    case h_2 => exact wr_blind _ _ _ s
    case h_1 | h_3 | h_4 => rfl
  | regRead reg =>
    simp only [exec, execRegRead, State.blank_upc]
    split
    case h_2 => exact rd_blind s
    case h_1 | h_3 | h_4 => rfl
  | readMotion =>
    simp only [exec, execReadMotion, State.blank_upc]
    split
    case h_2 | h_3 | h_4 | h_5 | h_6 => exact rd_blind s
    case h_1 | h_7 | h_8 => rfl
  | frameEnable =>
    simp only [exec, execFrameEnable, State.blank_upc]
    split
    · rfl
    · exact enablePhase_blind s
    · rfl
  | frameStream =>
    simp only [exec, execFrameStream, State.blank_upc]
    split
    · rfl
    · exact streamPhase_blind s
    · exact completionPhase_blind s
    · rfl
  | frameRead =>
    simp only [exec, execFrameRead, State.blank_upc]
    split
    · rfl
    · exact enablePhase_blind s
    · exact streamPhase_blind s
    · exact completionPhase_blind s
    · rfl
  | setLed on =>
    simp only [exec, execSetLed, State.blank_upc]
    split
    case h_2 => exact wait_blind _ _ s
    case h_3 | h_4 | h_5 => exact wr_blind _ _ _ s
    case h_1 | h_6 | h_7 => rfl

/-! ## The sequencer -/

theorem runFrame_blind (f : Frame) : Blind (runFrame f) := by
  intro s
  unfold runFrame
  split
  · exact exec_blind _ s
  · rfl

theorem runCommand_blind : Blind runCommand := by
  intro s
  unfold runCommand
  rw [State.blank_latched]
  split
  · exact exec_blind _ s
  · rfl

theorem acceptWord_blind (w : Cmd) : Blind (acceptWord w) := by
  intro s
  unfold acceptWord
  split
  · exact exec_blind _ (s.latch w)
  · rfl

theorem pollPort_blind : Blind pollPort := by
  intro s
  unfold pollPort
  rw [State.blank_cmdIn]
  split
  · exact acceptWord_blind _ s
  · rfl

/-- A step, over what it can do: reset, an event of a frame, a micro-step, a look at the port. -/
theorem step_blind : Blind step := by
  intro s
  obtain ⟨hr, hs⟩ | ⟨hr, f, k, hl, hs⟩ | ⟨hr, hl, hb, hs⟩ | ⟨hr, hl, hb, hs⟩ := step_cases s
  · rw [hs, step_of_rst (s := s.blank) hr]
    rfl
  · rw [hs, step_of_carrying (s := s.blank) hr hl]
    exact runFrame_blind f s.clock
  · rw [hs, step_of_busy (s := s.blank) hr hl hb]
    exact runCommand_blind s.clock
  · rw [hs, step_of_idle (s := s.blank) hr hl hb]
    exact pollPort_blind s.clock

/-- Settles O55: with `ISTATE` blanked the two states are one, and a step from there answers as from either, but for
`ISTATE`. -/
theorem istateGatesNothing : Obligations.IstateGatesNothing := by
  intro s t x h
  refine next_of_blankOut_eq ?_
  calc blankOut (step { s with istate := x })
      = blankOut (step s.blank) := (step_blind { s with istate := x }).symm
    _ = blankOut (step s) := step_blind s
    _ = .next t.blank := by rw [h, blankOut]

end Sys2Proof.Machine
end

section
/-! PROOFS. Engine reset at any step (70_reset_and_hazards.md R300, R301; 60_exceptions.md R282): what the result port
answers after it, and what it leaves alone. -/

namespace Sys2Proof.Machine

/-! ## The result port after a reset -/

/-- A result no command has written has no value, whatever bits its register holds (R42). -/
@[simp] theorem State.resultIf_not_written {α : Type} (s : State) (v : α) : s.resultIf false v = none := by
  simp [State.resultIf]

@[simp] theorem State.engineReset_readRdata (s : State) : s.engineReset.readRdata = none :=
  s.engineReset.resultIf_not_written _

@[simp] theorem State.engineReset_readDx (s : State) : s.engineReset.readDx = none :=
  s.engineReset.resultIf_not_written _

@[simp] theorem State.engineReset_readDy (s : State) : s.engineReset.readDy = none :=
  s.engineReset.resultIf_not_written _

@[simp] theorem State.engineReset_readPixcnt (s : State) : s.engineReset.readPixcnt = none :=
  s.engineReset.resultIf_not_written _

/-! ## A reset step -/

/-- Reset adds its line events to the record, the newest first, and no other (R300; log 12). -/
theorem State.clock_engineReset_trace (s : State) : s.clock.engineReset.trace = s.resetEvents ++ s.trace := rfl

/-- Settles O11: a step under `rst` is engine reset whatever was in progress, and each clause is a law of engine reset;
taking the level of `rst` changes nothing a clause speaks of. -/
theorem resetAbandonsTheCommand : Obligations.ResetAbandonsTheCommand := by
  intro s hr
  exact ⟨s.clock.engineReset, step_of_rst hr,
    -- the values of R42, and no transaction in progress
    rfl, rfl, rfl, rfl, rfl, rfl, rfl, rfl,
    -- no result readable
    State.engineReset_readRdata _, State.engineReset_readDx _, State.engineReset_readDy _,
    State.engineReset_readPixcnt _,
    -- what reset leaves alone: results, frame buffer, offers, sensor, parameters
    rfl, rfl, rfl, rfl, rfl, rfl, rfl, rfl, rfl,
    -- the line events
    s.clock_engineReset_trace⟩

end Sys2Proof.Machine
end
